-- ==== Sys2Proof/Word.lean ====
section
/-! DEFINITION. The word types of the part's three ports and the number types its records use. -/

namespace Sys2Proof

/-- One 32-bit word of the message bus or of the management window (13.1). -/
abbrev Word := BitVec 32

/-- One 16-bit profile word (R177). -/
abbrev Half := BitVec 16

/-- A lease slot's number, 0..127 (R26). -/
abbrev SlotNo := Fin 128

/-- A wait cell's number, 0..63 (R89). -/
abbrev CellNo := Fin 64

/-- An agent's number, 0..31 (R57). -/
abbrev AgentNo := Fin 32

end Sys2Proof
end

