-- ==== Sys2Proof/Syntax.lean ====
section
/-! DEFINITION. The commands: one constructor for each row of spec/opcode_table.json, in the table's order. -/

namespace Sys2Proof

/-- The access kind of a lookup (R137). -/
inductive AccessKind where
  | read
  | write
  deriving DecidableEq, Repr

/-- What the memory controller presents at the check port (R137). -/
structure Lookup where
  agent : AgentNo
  addr : BitVec 40
  kind : AccessKind
  deriving DecidableEq, Repr

/-- The commands of the part. A request command is the writes of request words 1 to 3, the last of which takes the request
(R63); request word 0 came by `firstRequestWord` (log 1). A host command reads the parameter words in State (R163). -/
inductive Instr where
  /-- ACQUIRE (R71): request words 1 to 3. -/
  | acquire (w1 w2 w3 : Word)
  /-- RENEW (R84): request words 1 to 3. -/
  | renew (w1 w2 w3 : Word)
  /-- RELEASE (R86): request words 1 to 3. -/
  | release (w1 w2 w3 : Word)
  /-- POLL (R103): request words 1 to 3. -/
  | poll (w1 w2 w3 : Word)
  /-- WITHDRAW (R107): request words 1 to 3. -/
  | withdraw (w1 w2 w3 : Word)
  /-- UNKNOWN_REQUEST (R68): request words 1 to 3. -/
  | unknownRequest (w1 w2 w3 : Word)
  /-- ARBITER_CHOICE (R60): the levels of REQ[31:0] at the choice. -/
  | arbiterChoice (req : Word)
  /-- TENURE_END (R63): the agent's reads of answer words 0 and 1. -/
  | tenureEnd
  /-- TENURE_LIMIT_EXPIRY (R64). -/
  | tenureLimitExpiry
  /-- ATTACH (R120): the agent whose ATTACH line rises. -/
  | attach (a : AgentNo)
  /-- DETACH (R121): the agent whose ATTACH line falls. -/
  | detach (a : AgentNo)
  /-- POWER_ON (R183): the GRANULE and AGENTS straps and the ATTACH levels at that moment. -/
  | powerOn (granule64 : Bool) (agentsCode : BitVec 2) (attach : Word)
  /-- TERM_EXPIRY (R40): the slot whose term runs out. -/
  | termExpiry (k : SlotNo)
  /-- HOLD_EXPIRY (R46): the slot whose hold runs out. -/
  | holdExpiry (k : SlotNo)
  /-- WAIT_LIMIT_EXPIRY (R109): the cell whose wait limit runs out. -/
  | waitLimitExpiry (c : CellNo)
  /-- COLLECTION_EXPIRY (R110): the cell whose collection window runs out. -/
  | collectionExpiry (c : CellNo)
  /-- LOOKUP (R139). -/
  | lookup (a : AgentNo) (addr : BitVec 40) (kind : AccessKind)
  /-- TRESPASS_CHARGE (R126). -/
  | trespassCharge
  /-- VISIT (R155): the visit of the next slot. -/
  | visit
  /-- FREEZE (R20). -/
  | freeze
  /-- THAW (R21). -/
  | thaw
  /-- SET_AGENT (R133). -/
  | setAgent
  /-- CLEAR_AGENT (R136). -/
  | clearAgent
  /-- START_SWEEP (R152). -/
  | startSweep
  /-- ABORT_SWEEP (R158). -/
  | abortSweep
  /-- LOAD_PROFILE (R178). -/
  | loadProfile
  /-- LOCK (R181). -/
  | lock
  /-- CLEAR_ALL (R182). -/
  | clearAll
  /-- READ_LEASE (R167). -/
  | readLease
  /-- READ_WAIT (R167). -/
  | readWait
  /-- READ_AGENT (R167). -/
  | readAgent
  /-- READ_SWEEP (R167). -/
  | readSweep
  /-- DROP_SNAPSHOT (R169). -/
  | dropSnapshot
  /-- FENCE_SET (R170). -/
  | fenceSet
  /-- FENCE_CLEAR (R172). -/
  | fenceClear
  /-- REVOKE (R173). -/
  | revoke
  /-- CANCEL_TICKET (R175). -/
  | cancelTicket
  /-- UNKNOWN_COMMAND (R163): the code written to the command word. -/
  | unknownCommand (code : BitVec 8)
  /-- CLOSING_READ (R166): the host reads snapshot word 11. -/
  | closingRead
  /-- ENABLE_WRITE (R185): the data written to window word 57. -/
  | enableWrite (data : Word)
  /-- GLOBAL_ENABLE_WRITE (R185): the global enable field written. -/
  | globalEnableWrite (on : Bool)
  /-- ELEVATE_WRITE (R185): the ELEVATE field written. -/
  | elevateWrite (field : BitVec 4)
  /-- ACKNOWLEDGE (R186): the data written to window word 60. -/
  | acknowledge (data : Word)
  /-- REGISTER_WRITE (R189): window word number and data. -/
  | registerWrite (addr : BitVec 6) (data : Word)
  /-- FIRST_REQUEST_WORD (R64): request word 0. -/
  | firstRequestWord (w0 : Word)
  /-- RESET_HELD (R183): RESET is asserted. -/
  | resetHeld
  deriving DecidableEq, Repr

end Sys2Proof
end

