-- ==== Sys2Proof/Decode.lean ====
section
/-! DEFINITION. The rows of the table that give bits: none of the 46 does, so no word spells a command (log 21). -/

namespace Sys2Proof

/-- The command a word spells by the table's bits: no row of spec/opcode_table.json gives any. -/
def decodeTableWord (_nbits _w : Nat) : Option Instr := none

end Sys2Proof
end

