-- ==== Sys2Proof/Machine/Records.lean ====
section
/-! DEFINITION. The records of the part's tables, each with exactly the fields its state gives it (R27, R91, R148). -/

namespace Sys2Proof.Machine

/-- A granule range, both ends included (R3). -/
structure GranuleRange where
  first : Word
  last : Word
  deriving DecidableEq, Repr

/-- The mode an agent's lease or request may have (R26, R90). -/
inductive LeaseMode where
  | shared
  | exclusive
  deriving DecidableEq, Repr

/-- The mode of a claim (R11). -/
inductive ClaimMode where
  | shared
  | exclusive
  | fence
  deriving DecidableEq, Repr

/-- The owner of a claim: an agent, or MANAGEMENT (R11). -/
inductive Owner where
  | agent (a : AgentNo)
  | management
  deriving DecidableEq, Repr

/-- A claim: anything that stakes out a range (R11). -/
structure Claim where
  owner : Owner
  mode : ClaimMode
  range : GranuleRange
  deriving DecidableEq, Repr

/-- The default policy of a partition (R4). -/
inductive Policy where
  | openAccess
  | readOnly
  | closed
  deriving DecidableEq, Repr

/-- A partition entry (R4). -/
structure Partition where
  valid : Bool
  range : GranuleRange
  firstAgent : AgentNo
  lastAgent : AgentNo
  policy : Policy
  deriving DecidableEq, Repr

/-- The fields of an agent lease that are present in every state but FREE (R26, R27). -/
structure AgentLease where
  owner : AgentNo
  mode : LeaseMode
  range : GranuleRange
  term : BitVec 16
  auto : Bool
  allowance : BitVec 8
  budget : BitVec 8
  deriving DecidableEq, Repr

/-- The state of a lease slot with the fields of that state (R27). A timer is in thousandths of a unit (log 7). A fence is a
HELD record owned by MANAGEMENT (R26). -/
inductive SlotState where
  | free
  | reserved (lease : AgentLease) (ticketLink : CellNo)
  | held (lease : AgentLease) (remaining : Nat)
  | lapsed (lease : AgentLease) (remaining : Nat)
  | revoked (lease : AgentLease) (remaining : Nat)
  | fence (range : GranuleRange)
  deriving DecidableEq, Repr

/-- One slot of the Lease Table (R26). -/
structure LeaseSlot where
  generation : BitVec 8
  state : SlotState
  deriving DecidableEq, Repr

/-- Why a request was deferred (R81). -/
inductive Reason where
  | conflict
  | sweep
  | noSlot
  deriving DecidableEq, Repr

/-- How a wait ended when it did not end in a grant (R97). -/
inductive Ending where
  | timedOut
  | cancelled
  | barred
  deriving DecidableEq, Repr

/-- The fields of a wait entry written at the deferral and kept until the cell is emptied (R91). -/
structure WaitEntry where
  agent : AgentNo
  mode : LeaseMode
  range : GranuleRange
  term : BitVec 16
  auto : Bool
  allowance : BitVec 8
  deriving DecidableEq, Repr

/-- The state of a wait cell with the fields of that state (R91): READY is split by outcome, since only outcome GRANTED has a
lease slot. -/
inductive CellState where
  | empty
  | waiting (entry : WaitEntry) (reason : Reason) (waitLeft : Option Nat)
  | granted (entry : WaitEntry) (collectLeft : Nat) (leaseSlot : SlotNo)
  | ended (entry : WaitEntry) (outcome : Ending) (collectLeft : Nat)
  deriving DecidableEq, Repr

/-- One cell of the Wait List (R89). -/
structure WaitCell where
  generation : BitVec 8
  state : CellState
  deriving DecidableEq, Repr

/-- The port state of an agent record (R118). -/
inductive PortState where
  | absent
  | detached
  | attached
  deriving DecidableEq, Repr

/-- The arbiter class of an agent (R59). -/
inductive ArbiterClass where
  | low
  | high
  deriving DecidableEq, Repr

/-- The class of a conduct score (R124). -/
inductive ScoreClass where
  | advisory
  | barring
  deriving DecidableEq, Repr

/-- An agent's standing (R128). -/
inductive Standing where
  | good
  | advised
  | barred
  deriving DecidableEq, Repr

/-- The host's settings of one conduct score (R124). -/
structure ScoreSettings where
  threshold : Nat
  penalty : Nat
  scoreClass : ScoreClass
  deriving DecidableEq, Repr

/-- One conduct score of one agent (R124). -/
structure Score where
  value : Nat
  rawCount : Nat
  settings : ScoreSettings
  deriving DecidableEq, Repr

/-- The three conduct scores (R124). -/
inductive ScoreName where
  | overstay
  | abandon
  | trespass
  deriving DecidableEq, Repr

/-- What an agent record keeps (R118); its derived fields are computed at every use. -/
structure AgentRecord where
  arbiterClass : ArbiterClass
  leaseLimit : Nat
  overstay : Score
  abandon : Score
  trespass : Score
  deriving DecidableEq, Repr

/-- How far the exchange of a tenure has got (R63, R64). -/
inductive TenurePhase where
  /-- GNT raised, request word 0 not yet written, with the microseconds left of the tenure limit. -/
  | awaitingFirst (limitLeft : Nat)
  /-- Request word 0 written; the request is not yet taken. -/
  | requesting (w0 : Word)
  /-- The request is taken; the answer words stand until they are read. -/
  | answered (a0 a1 : Word)
  deriving DecidableEq, Repr

/-- The tenure record when it names an agent (R59). -/
structure Tenure where
  agent : AgentNo
  phase : TenurePhase
  deriving DecidableEq, Repr

/-- Where the sweep stands (R148). -/
inductive SweepStatus where
  | neverRun
  | inProgress
  | completed
  | aborted
  | interrupted
  deriving DecidableEq, Repr

/-- What a sweep matches, with the fields of its kind (R148). -/
inductive SweepKind where
  | range (range : GranuleRange) (cancelWaiters : Bool)
  | agent (target : AgentNo)
  deriving DecidableEq, Repr

/-- The sweep record (R148); the kind is absent in NEVER_RUN. -/
structure SweepRecord where
  status : SweepStatus
  kind : Option SweepKind
  nextSlot : Nat
  revokedCount : Nat
  tenths : Nat
  deriving DecidableEq, Repr

/-- Why a lookup is denied (R138). -/
inductive DenyReason where
  | offline
  | outside
  | fence
  | sharedOnly
  | heldByOther
  | notHeld
  | policy
  deriving DecidableEq, Repr

/-- The answer to a lookup (R138). -/
inductive CheckAnswer where
  | allow
  | deny (reason : DenyReason)
  deriving DecidableEq, Repr

/-- The answer codes (13.2). -/
inductive AnswerCode where
  | granted | deferred | renewed | released | waiting | withdrawn | malformed | barred | bounds | sweeping | limit | conflict
  | full | tickets | waitFull | stale | notOwner | late | revoked | exhausted | yield | timedOut | cancelled
  deriving DecidableEq, Repr

/-- The result codes (13.2, R164). -/
inductive ResultCode where
  | done | ignored | locked | inUse | tableFull | stale | notFound | badArgument | sweepBusy | noSweep | badRevision
  | badChecksum | badField | mapConflict
  deriving DecidableEq, Repr

/-- The interrupt sources, in default priority order, highest first (R184). -/
inductive Source where
  | agentBarred | leaseLapsed | ticketAbandoned | agentAdvised | tableFull | waitFull | sweepDone | agentDetached
  deriving DecidableEq, Repr

/-- The fields of one interrupt source (R184). -/
structure SourceState where
  pending : Bool
  detail : BitVec 8
  enabled : Bool
  deriving DecidableEq, Repr

/-- An answer (R69): code, handle or ticket right-aligned in 16 bits, value; a part not carried is 0. -/
structure Answer where
  code : AnswerCode
  name : BitVec 16
  value : Word
  deriving DecidableEq, Repr

/-- A handle: slot and generation (R29). -/
structure Handle where
  slot : SlotNo
  generation : BitVec 8
  deriving DecidableEq, Repr

/-- A ticket: cell and cell generation (R92). -/
structure Ticket where
  cell : CellNo
  generation : BitVec 8
  deriving DecidableEq, Repr

end Sys2Proof.Machine
end

