-- ==== Sys2Proof/Machine/Fields.lean ====
section
/-! DEFINITION. Bit fields of words, and the numeric codes of 13.2. -/

namespace Sys2Proof.Machine

/-- Bits `lo + len - 1 .. lo` of a word, as a number. -/
def fieldOf (w : Word) (lo len : Nat) : Nat := (w.extractLsb' lo len).toNat

/-- The number `v`, cut to `len` bits, at bits `lo + len - 1 .. lo` of a word that is 0 elsewhere. -/
def placeField (v lo len : Nat) : Word := BitVec.ofNat 32 ((v % 2 ^ len) * 2 ^ lo)

/-- A number as a whole word. -/
def wordOf (n : Nat) : Word := BitVec.ofNat 32 n

/-- Yes and no as 1 and 0. -/
def boolCode (b : Bool) : Nat := if b then 1 else 0

/-- Mode codes (13.2). -/
def ClaimMode.code : ClaimMode → Nat
  | .shared => 0
  | .exclusive => 1
  | .fence => 2

/-- An agent lease's mode as a claim's mode (R11). -/
def LeaseMode.claimMode : LeaseMode → ClaimMode
  | .shared => .shared
  | .exclusive => .exclusive

/-- Owner codes (13.2): 0..31 an agent, 32 MANAGEMENT. -/
def Owner.code : Owner → Nat
  | .agent a => a.val
  | .management => 32

/-- Lease-state codes (13.2). -/
def SlotState.code : SlotState → Nat
  | .free => 0
  | .reserved _ _ => 1
  | .held _ _ => 2
  | .lapsed _ _ => 3
  | .revoked _ _ => 4
  | .fence _ => 2

/-- Wait-state codes (13.2). -/
def CellState.code : CellState → Nat
  | .empty => 0
  | .waiting _ _ _ => 1
  | .granted _ _ _ => 2
  | .ended _ _ _ => 2

/-- Reason codes (13.2). -/
def Reason.code : Reason → Nat
  | .conflict => 0
  | .sweep => 1
  | .noSlot => 2

/-- Outcome codes of a wait that ended without a grant (13.2); GRANTED is 0. -/
def Ending.code : Ending → Nat
  | .timedOut => 1
  | .cancelled => 2
  | .barred => 3

/-- The answer code of an ending (R106). -/
def Ending.answer : Ending → AnswerCode
  | .timedOut => .timedOut
  | .cancelled => .cancelled
  | .barred => .barred

/-- Port codes (13.2). -/
def PortState.code : PortState → Nat
  | .absent => 0
  | .detached => 1
  | .attached => 2

/-- Arbiter class codes (13.2). -/
def ArbiterClass.code : ArbiterClass → Nat
  | .low => 1
  | .high => 2

/-- The arbiter class a code names (13.2). -/
def arbiterClassOf : Nat → Option ArbiterClass
  | 1 => some .low
  | 2 => some .high
  | _ => none

/-- Standing codes (13.2). -/
def Standing.code : Standing → Nat
  | .good => 0
  | .advised => 1
  | .barred => 2

/-- Codes of the classes of conduct scores (13.2). -/
def ScoreClass.code : ScoreClass → Nat
  | .advisory => 1
  | .barring => 2

/-- The class of conduct score a code names (13.2). -/
def scoreClassOf : Nat → Option ScoreClass
  | 1 => some .advisory
  | 2 => some .barring
  | _ => none

/-- The policy a code names (13.2). -/
def policyOf : Nat → Option Policy
  | 0 => some .openAccess
  | 1 => some .readOnly
  | 2 => some .closed
  | _ => none

/-- Sweep status codes (13.2). -/
def SweepStatus.code : SweepStatus → Nat
  | .neverRun => 0
  | .inProgress => 1
  | .completed => 2
  | .aborted => 3
  | .interrupted => 4

/-- Sweep kind codes (13.2). -/
def SweepKind.code : SweepKind → Nat
  | .range _ _ => 1
  | .agent _ => 2

/-- Codes of the reasons for DENY, as CK_REASON carries them (13.2). -/
def DenyReason.code : DenyReason → Nat
  | .offline => 0
  | .outside => 1
  | .fence => 2
  | .sharedOnly => 3
  | .heldByOther => 4
  | .notHeld => 5
  | .policy => 6

/-- Answer codes (13.2). -/
def AnswerCode.code : AnswerCode → Nat
  | .granted => 0
  | .deferred => 1
  | .renewed => 2
  | .released => 3
  | .waiting => 4
  | .withdrawn => 5
  | .malformed => 6
  | .barred => 7
  | .bounds => 8
  | .sweeping => 9
  | .limit => 10
  | .conflict => 11
  | .full => 12
  | .tickets => 13
  | .waitFull => 14
  | .stale => 15
  | .notOwner => 16
  | .late => 17
  | .revoked => 18
  | .exhausted => 19
  | .yield => 20
  | .timedOut => 21
  | .cancelled => 22

/-- Result codes (13.2). -/
def ResultCode.code : ResultCode → Nat
  | .done => 0
  | .ignored => 1
  | .locked => 2
  | .inUse => 3
  | .tableFull => 4
  | .stale => 5
  | .notFound => 6
  | .badArgument => 7
  | .sweepBusy => 8
  | .noSweep => 9
  | .badRevision => 10
  | .badChecksum => 11
  | .badField => 12
  | .mapConflict => 13

/-- Interrupt source numbers (13.2). -/
def Source.number : Source → Fin 8
  | .agentBarred => 0
  | .leaseLapsed => 1
  | .ticketAbandoned => 2
  | .agentAdvised => 3
  | .tableFull => 4
  | .waitFull => 5
  | .sweepDone => 6
  | .agentDetached => 7

/-- The sources in their default priority order, highest first (R184). -/
def Source.defaultOrder : List Source :=
  [.agentBarred, .leaseLapsed, .ticketAbandoned, .agentAdvised, .tableFull, .waitFull, .sweepDone, .agentDetached]

/-- The source an ELEVATE field names; any other value names none (R189). -/
def sourceOf (field : BitVec 4) : Option Source :=
  Source.defaultOrder[field.toNat]?

/-- A handle as 15 bits, slot in bits 6..0 and generation in bits 14..7 (13.3). -/
def Handle.bits (h : Handle) : BitVec 16 := BitVec.ofNat 16 (h.slot.val + h.generation.toNat * 128)

/-- A ticket as 14 bits, cell in bits 5..0 and generation in bits 13..6 (13.3). -/
def Ticket.bits (t : Ticket) : BitVec 16 := BitVec.ofNat 16 (t.cell.val + t.generation.toNat * 64)

/-- Answer word 0: code in bits 7..0, handle or ticket in bits 23..8, the rest 0 (13.3, R188). -/
def Answer.word0 (a : Answer) : Word := placeField a.code.code 0 8 ||| placeField a.name.toNat 8 16

/-- Answer word 1: the value, whole word (13.3). -/
def Answer.word1 (a : Answer) : Word := a.value

end Sys2Proof.Machine
end

