-- ==== Sys2Proof/Machine/Ranges.lean ====
section
/-! DEFINITION. Granule ranges, partitions, admissibility and the conflict relation (chapter 1). -/

namespace Sys2Proof.Machine

/-- The granule lies in the range (R3). -/
def GranuleRange.covers (r : GranuleRange) (g : Word) : Bool := decide (r.first ≤ g) && decide (g ≤ r.last)

/-- The two ranges have a granule in common (R3). -/
def GranuleRange.intersects (r q : GranuleRange) : Bool := decide (r.first ≤ q.last) && decide (q.first ≤ r.last)

/-- The range is well formed for a granule space with this largest granule number (R3). -/
def GranuleRange.wellFormed (r : GranuleRange) (largest : Word) : Bool :=
  decide (r.first ≤ r.last) && decide (r.last ≤ largest)

/-- The valid partition is open to the agent (R7). -/
def Partition.openTo (p : Partition) (a : AgentNo) : Bool := decide (p.firstAgent ≤ a) && decide (a ≤ p.lastAgent)

/-- The granule lies in this valid partition and the partition is open to the agent (R7). -/
def Partition.admits (p : Partition) (a : AgentNo) (g : Word) : Bool := p.valid && p.range.covers g && p.openTo a

/-- The range is admissible for the agent under the map: both ends lie in one valid partition that is open to it (R9). -/
def admissible (map : Vector Partition 8) (a : AgentNo) (r : GranuleRange) : Bool :=
  map.toList.any fun p => p.admits a r.first && p.admits a r.last

/-- The partition of the granule, where it is open to the agent (R6, R7; at most one by R6, log 23). -/
def openPartition (map : Vector Partition 8) (a : AgentNo) (g : Word) : Option Partition :=
  map.toList.find? fun p => p.admits a g

/-- A claim of this mode excludes the claims of other owners (R12). -/
def ClaimMode.excludes : ClaimMode → Bool
  | .shared => false
  | .exclusive => true
  | .fence => true

/-- The conflict relation (R12). -/
def Claim.conflicts (a b : Claim) : Bool :=
  a.range.intersects b.range && decide (a.owner ≠ b.owner) && (a.mode.excludes || b.mode.excludes)

/-- The claim of an agent lease (R11). -/
def AgentLease.claim (l : AgentLease) : Claim := ⟨.agent l.owner, l.mode.claimMode, l.range⟩

/-- The claim of a wait entry's request (R11). -/
def WaitEntry.claim (e : WaitEntry) : Claim := ⟨.agent e.agent, e.mode.claimMode, e.range⟩

/-- The slot is FREE. -/
def SlotState.isFree : SlotState → Bool
  | .free => true
  | _ => false

/-- The agent lease of a slot, in whatever state (R26). -/
def SlotState.lease? : SlotState → Option AgentLease
  | .reserved l _ => some l
  | .held l _ => some l
  | .lapsed l _ => some l
  | .revoked l _ => some l
  | .free => none
  | .fence _ => none

/-- The range-holding agent lease of a slot: RESERVED, HELD or LAPSED (R14). -/
def SlotState.holding? : SlotState → Option AgentLease
  | .reserved l _ => some l
  | .held l _ => some l
  | .lapsed l _ => some l
  | .revoked _ _ => none
  | .free => none
  | .fence _ => none

/-- The claim of a range-holding slot, fences included (R11, R14). -/
def SlotState.claim? : SlotState → Option Claim
  | .fence r => some ⟨.management, .fence, r⟩
  | st => st.holding?.map AgentLease.claim

/-- The slot is an agent lease of this agent, in whatever non-FREE state (R30). -/
def SlotState.ownedBy (st : SlotState) (a : AgentNo) : Bool := st.lease?.any fun l => l.owner == a

/-- The wait entry of a cell, WAITING or READY (R90). -/
def CellState.entry? : CellState → Option WaitEntry
  | .empty => none
  | .waiting e _ _ => some e
  | .granted e _ _ => some e
  | .ended e _ _ => some e

/-- The entry of a WAITING cell. -/
def CellState.waiting? : CellState → Option WaitEntry
  | .waiting e _ _ => some e
  | _ => none

/-- The cell is EMPTY. -/
def CellState.isEmpty : CellState → Bool
  | .empty => true
  | _ => false

/-- The cell holds an entry of this agent, WAITING or READY (R93). -/
def CellState.ownedBy (st : CellState) (a : AgentNo) : Bool := st.entry?.any fun e => e.agent == a

/-- What an IN_PROGRESS sweep matches; nothing in any other status (R150). -/
def SweepRecord.active? (r : SweepRecord) : Option SweepKind :=
  match r.status with
  | .inProgress => r.kind
  | _ => none

/-- The IN_PROGRESS sweep falls on this agent and range: a RANGE sweep that intersects the range, or an AGENT sweep whose target
is the agent (R150; the sweep condition of R40, R84 and R99 (c)). -/
def SweepRecord.fallsOn (r : SweepRecord) (a : AgentNo) (q : GranuleRange) : Bool :=
  match r.active? with
  | some (.range swept _) => swept.intersects q
  | some (.agent target) => decide (target = a)
  | none => false

/-- The IN_PROGRESS sweep matches the agent lease (R150). -/
def SweepRecord.matchesLease (r : SweepRecord) (l : AgentLease) : Bool := r.fallsOn l.owner l.range

/-- The claim of the sweep fence, which exists while a RANGE sweep is IN_PROGRESS (R148, R153). -/
def SweepRecord.fence? (r : SweepRecord) : Option Claim :=
  match r.active? with
  | some (.range swept _) => some ⟨.management, .fence, swept⟩
  | _ => none

/-- The SWEEPING test of ACQUIRE (R74). -/
def SweepRecord.refusesAcquire (r : SweepRecord) (a : AgentNo) (q : GranuleRange) : Bool :=
  match r.active? with
  | some (.range swept cancelWaiters) => cancelWaiters && swept.intersects q
  | some (.agent target) => decide (target = a)
  | none => false

end Sys2Proof.Machine
end

