-- ==== Sys2Proof/Config.lean ====
section
/-! DEFINITION. What is fixed for the part. -/

namespace Sys2Proof

/-- How many entries the Partition Map holds (R4). -/
def Config.partitionCount : Nat := 8

/-- How many wait entries one agent may hold (R79, R93). -/
def Config.ticketsPerAgent : Nat := 4

/-- How many charges the charge queue holds (R126). -/
def Config.chargeQueueSize : Nat := 8

/-- The tenure limit in microseconds (R64). -/
def Config.tenureLimit : Nat := 2

end Sys2Proof
end

