-- ==== Sys2Proof/Machine/PowerOnValues.lean ====
section
/-! DEFINITION. The power-on value of every record (R183 and the rules each definition cites). -/

namespace Sys2Proof.Machine

/-- The largest granule number of the selected granule size (R1). -/
def largestGranuleOf (granule64 : Bool) : Word :=
  if granule64 then 0x00FFFFFF#32 else 0x0FFFFFFF#32

/-- Entry 0 at power-on: everything, every agent, OPEN (R5). -/
def powerOnEntry0 (granule64 : Bool) : Partition :=
  { valid := true, range := ⟨0, largestGranuleOf granule64⟩, firstAgent := 0, lastAgent := 31, policy := .openAccess }

/-- Entries 1 to 7 at power-on (R5). -/
def powerOnInvalidEntry : Partition :=
  { valid := false, range := ⟨0, 0⟩, firstAgent := 0, lastAgent := 0, policy := .closed }

/-- The power-on map (R5). -/
def powerOnMap (granule64 : Bool) : Vector Partition 8 :=
  (Vector.replicate 8 powerOnInvalidEntry).set 0 (powerOnEntry0 granule64)

/-- The power-on settings of each conduct score (R124). -/
def powerOnSettings : ScoreName → ScoreSettings
  | .overstay => ⟨40, 10, .barring⟩
  | .abandon => ⟨40, 10, .advisory⟩
  | .trespass => ⟨40, 2, .advisory⟩

/-- A conduct score at power-on: value 100, raw count 0 (R119). -/
def powerOnScore (n : ScoreName) : Score := ⟨100, 0, powerOnSettings n⟩

/-- An agent record at power-on (R119). -/
def powerOnAgent : AgentRecord :=
  { arbiterClass := .low, leaseLimit := 8, overstay := powerOnScore .overstay, abandon := powerOnScore .abandon,
    trespass := powerOnScore .trespass }

/-- A lease slot at power-on (R52). -/
def powerOnSlot : LeaseSlot := ⟨0, .free⟩

/-- A wait cell at power-on (R114). -/
def powerOnCell : WaitCell := ⟨0, .empty⟩

/-- The sweep record at power-on (R149). -/
def powerOnSweep : SweepRecord := ⟨.neverRun, none, 0, 0, 0⟩

/-- An interrupt source at power-on (R187). -/
def powerOnSource : SourceState := ⟨false, 0, false⟩

/-- The unit code at power-on (R16). -/
def powerOnUnitCode : BitVec 2 := 2

/-- The hold period at power-on (R24). -/
def powerOnHoldPeriod : BitVec 8 := 16

/-- The collection window at power-on (R24). -/
def powerOnCollectWindow : BitVec 8 := 32

end Sys2Proof.Machine
end

