-- ==== Sys2Proof/Machine/State.lean ====
section
/-! DEFINITION. The state of the part, the reasons a step can stop, and the machine right after power-on. -/

namespace Sys2Proof.Machine

/-- The part stops for no reason of its own: every request, command and lookup has an answer (R68, R137, R163), so no command
ends in a fault, and this type has no constructor. -/
inductive Fault where
  deriving DecidableEq, Repr

/-- Why a step has no meaning. -/
inductive Refusal where
  /-- Raised by `exec` alone, for a command that has no meaning yet (safe: the run stops). No arm raises it now. -/
  | notModelled (mnemonic : String)
  deriving DecidableEq, Repr

/-- Everything the spec gives the part, and the queue of waiting commands. INVENTORY.md names the rule of each field. -/
structure State where
  /-- The commands that are waiting, first in, first out: the model's own field (log 20). -/
  pending : List Instr
  /-- Whether the RESET pin is held (R183). -/
  resetHeld : Bool
  /-- The latched GRANULE strap: high is 64 KiB (R1). -/
  granule64 : Bool
  /-- The latched AGENTS straps (R57). -/
  agentsCode : BitVec 2
  /-- The ATTACH lines (R58). -/
  attach : Word
  /-- The REQ lines as last presented (R58). -/
  req : Word
  /-- MACK: whether the last bus transfer was acknowledged (R63). -/
  mack : Bool
  /-- MD as the part last drove it (R63). -/
  md : Option Word
  /-- LB_DATA as the part last drove it on the closing read (R166). -/
  lbData : Option Word
  /-- The answer the check port shows; `none` while CK_DONE is low (R188). -/
  ckAnswer : Option CheckAnswer
  /-- The Partition Map (R4). -/
  map : Vector Partition 8
  /-- The unit code (R16). -/
  unitCode : BitVec 2
  /-- The Timebase is FROZEN (R20). -/
  frozen : Bool
  /-- The hold period, in units (R24). -/
  holdPeriod : BitVec 8
  /-- The collection window, in units (R24). -/
  collectWindow : BitVec 8
  /-- The yield flag (R183). -/
  yieldFlag : Bool
  /-- The Lease Table (R26). -/
  slots : Vector LeaseSlot 128
  /-- The Wait List's cells (R89). -/
  cells : Vector WaitCell 64
  /-- The occupied cells in arrival order, head first (R89). -/
  order : List CellNo
  /-- The Agent Table (R118). -/
  agents : Vector AgentRecord 32
  /-- The charge queue, oldest first (R126). -/
  charges : List AgentNo
  /-- The lookup on CK_AGENT, CK_ADDR and CK_WRITE while CK_VALID has risen with it and it is not yet taken (R126, R137, R188). -/
  presented : Option Lookup
  /-- Lookups sent before the answer to the one before them, oldest first: each waits for a rise of CK_VALID of its own (R137, R188;
  log 10). -/
  heldLookups : List Lookup
  /-- The rotation pointer (R59). -/
  rotation : Fin 33
  /-- The LOW pointer (R59). -/
  lowPointer : AgentNo
  /-- The tenure record (R59). -/
  tenure : Option Tenure
  /-- The sweep record (R148). -/
  sweep : SweepRecord
  /-- Parameter words 0 to 5 (R163). -/
  params : Vector Word 6
  /-- The result word (R164). -/
  result : ResultCode
  /-- The snapshot buffer: EMPTY, or HELD with its image (R166). -/
  snapshot : Option (Vector Word 12)
  /-- The staging area (R177). -/
  staging : Vector Half 48
  /-- The lock flag (R181). -/
  lock : Bool
  /-- The interrupt sources, in the order of their numbers (R184). -/
  sources : Vector SourceState 8
  /-- The global enable (R185). -/
  globalEnable : Bool
  /-- The ELEVATE setting (R185). -/
  elevate : Option Source
  deriving DecidableEq, Repr

/-- The part right after power-on (R183). The straps and the levels of the lines are the outside's: GRANULE low, AGENTS 0,
ATTACH and REQ low here (DESIGN CHOICE, unsafe, log 14); the output pins have not been driven (log 24). -/
def State.reset : State where
  pending := []
  resetHeld := false
  granule64 := false
  agentsCode := 0
  attach := 0
  req := 0
  mack := false
  md := none
  lbData := none
  ckAnswer := none
  map := powerOnMap false
  unitCode := powerOnUnitCode
  frozen := false
  holdPeriod := powerOnHoldPeriod
  collectWindow := powerOnCollectWindow
  yieldFlag := false
  slots := Vector.replicate 128 powerOnSlot
  cells := Vector.replicate 64 powerOnCell
  order := []
  agents := Vector.replicate 32 powerOnAgent
  charges := []
  presented := none
  heldLookups := []
  rotation := 0
  lowPointer := 0
  tenure := none
  sweep := powerOnSweep
  params := Vector.replicate 6 0
  result := .done
  snapshot := none
  staging := Vector.replicate 48 0
  lock := false
  sources := Vector.replicate 8 powerOnSource
  globalEnable := false
  elevate := none

end Sys2Proof.Machine
end

