-- ==== Sys2Proof/Machine/Flags.lean ====
section
/-! DEFINITION. What is derived and not stored: port state, standing, counts, INT, TOP, GNT, the status word; and how a conduct
score is charged and credited. -/

namespace Sys2Proof.Machine

/-! ### Straps and ports -/

/-- The largest granule number (R1). -/
def State.largestGranule (s : State) : Word := largestGranuleOf s.granule64

/-- The granule of a byte address (R2). -/
def State.granuleOf (s : State) (addr : BitVec 40) : Word :=
  if s.granule64 then (addr >>> 16).setWidth 32 else (addr >>> 12).setWidth 32

/-- How many agent ports a strap code selects (R57). -/
def portCountOf (code : BitVec 2) : Nat :=
  match code.toNat with
  | 0 => 8
  | 1 => 16
  | _ => 32

/-- How many agent ports there are (R57). -/
def State.portCount (s : State) : Nat := portCountOf s.agentsCode

/-- The port state of an agent: ABSENT at or above the strap count, else as its ATTACH line stands (R57, R58, R120; log 19). -/
def State.port (s : State) (a : AgentNo) : PortState :=
  if s.portCount ≤ a.val then .absent else if s.attach.getLsbD a.val then .attached else .detached

/-- A line of a 32-line group set to a level. -/
def setLine (lines : Word) (a : AgentNo) (level : Bool) : Word :=
  if level then lines ||| BitVec.twoPow 32 a.val else lines &&& ~~~(BitVec.twoPow 32 a.val)

/-! ### Conduct and standing -/

/-- The conduct score trips: its value is at or below its threshold (R124). -/
def Score.trips (x : Score) : Bool := decide (x.value ≤ x.settings.threshold)

/-- One charge: the value falls by the penalty, not below 1, and the raw count rises, to at most 65,535 (R125). -/
def Score.charged (x : Score) : Score :=
  { x with value := max 1 (x.value - x.settings.penalty), rawCount := if x.rawCount < 65535 then x.rawCount + 1 else x.rawCount }

/-- One credit: the value rises by 1, to at most 100; the raw count stays (R127). -/
def Score.credited (x : Score) : Score := { x with value := min 100 (x.value + 1) }

/-- The score reset: value 100, raw count 0, settings kept (R136, R182). -/
def Score.cleared (x : Score) : Score := { x with value := 100, rawCount := 0 }

/-- The score under new settings, its history kept (R134, R179). -/
def Score.withSettings (x : Score) (n : ScoreSettings) : Score := { x with settings := n }

/-- The three scores of a record. -/
def AgentRecord.scores (r : AgentRecord) : List Score := [r.overstay, r.abandon, r.trespass]

/-- The standing derived from the three scores (R128). -/
def AgentRecord.standing (r : AgentRecord) : Standing :=
  if r.scores.any fun x => x.settings.scoreClass == .barring && x.trips then .barred
  else if r.scores.any fun x => x.settings.scoreClass == .advisory && x.trips then .advised
  else .good

/-- One score of the record charged (R125). -/
def AgentRecord.charged (r : AgentRecord) : ScoreName → AgentRecord
  | .overstay => { r with overstay := r.overstay.charged }
  | .abandon => { r with abandon := r.abandon.charged }
  | .trespass => { r with trespass := r.trespass.charged }

/-- All three scores credited (R127). -/
def AgentRecord.credited (r : AgentRecord) : AgentRecord :=
  { r with overstay := r.overstay.credited, abandon := r.abandon.credited, trespass := r.trespass.credited }

/-- All three scores reset (R136, R182). -/
def AgentRecord.cleared (r : AgentRecord) : AgentRecord :=
  { r with overstay := r.overstay.cleared, abandon := r.abandon.cleared, trespass := r.trespass.cleared }

/-- The nine settings replaced (R134, R179). -/
def AgentRecord.withSettings (r : AgentRecord) (o a t : ScoreSettings) : AgentRecord :=
  { r with overstay := r.overstay.withSettings o, abandon := r.abandon.withSettings a, trespass := r.trespass.withSettings t }

/-! ### Interrupts and pins -/

/-- The priority order: the default order, with the elevated source first (R185). -/
def priorityOrder (elevate : Option Source) : List Source :=
  match elevate with
  | none => Source.defaultOrder
  | some x => x :: Source.defaultOrder.filter (· != x)

/-- The source is both pending and enabled (R185). -/
def State.live (s : State) (x : Source) : Bool := s.sources[x.number].pending && s.sources[x.number].enabled

/-- What TOP reads: the highest source that is both pending and enabled, or NONE (R185). -/
def State.top (s : State) : Option Source := (priorityOrder s.elevate).find? s.live

/-- The level of INT: asserted while the global enable is on and some source is both pending and enabled, and otherwise deasserted
(R185), while RESET is held too (log 13). -/
def State.intLine (s : State) : Bool := s.globalEnable && Source.defaultOrder.any s.live

/-- GNT[31:0]: the line of the agent in tenure (R58, R61, R63). -/
def State.gnt (s : State) : Word :=
  match s.tenure with
  | some t => BitVec.twoPow 32 t.agent.val
  | none => 0

/-- The status word (R165, 13.4). The bits 13.4 gives no field, 3, 7 and 31..14, read 0: DESIGN CHOICE, unsafe, log 28. -/
def State.statusWord (s : State) : Word :=
  placeField (boolCode s.frozen) 0 1 ||| placeField s.unitCode.toNat 1 2 ||| placeField s.sweep.status.code 4 3 |||
    placeField s.sweep.tenths 8 4 ||| placeField (boolCode s.lock) 12 1 ||| placeField (boolCode s.snapshot.isSome) 13 1

end Sys2Proof.Machine
end

