-- ==== Sys2Proof/Machine/Operands.lean ====
section
/-! DEFINITION. How operands are read from request words (13.3), parameter words (13.4) and the profile block (13.6). -/

namespace Sys2Proof.Machine

/-- The request kinds (13.2). -/
inductive RequestKind where
  | acquire | renew | release | poll | withdraw
  deriving DecidableEq, Repr

/-- The kind in bits 3..0 of request word 0; every other value is unknown (13.2, 13.3). -/
def requestKindOf (w0 : Word) : Option RequestKind :=
  match fieldOf w0 0 4 with
  | 1 => some .acquire
  | 2 => some .renew
  | 3 => some .release
  | 4 => some .poll
  | 5 => some .withdraw
  | _ => none

/-- The mode an ACQUIRE mode code names: 0 SHARED, 1 EXCLUSIVE; any other is malformed (R70, R188). -/
def leaseModeOf : Nat → Option LeaseMode
  | 0 => some .shared
  | 1 => some .exclusive
  | _ => none

/-- The fields of an ACQUIRE (13.3). -/
structure AcquireFields where
  mode : Option LeaseMode
  auto : Bool
  allowance : BitVec 8
  range : GranuleRange
  term : BitVec 16
  waitLimit : BitVec 16
  deriving DecidableEq, Repr

/-- The fields of an ACQUIRE, read where 13.3 places them and nowhere else (R188). -/
def acquireFields (w0 w1 w2 w3 : Word) : AcquireFields where
  mode := leaseModeOf (fieldOf w0 4 2)
  auto := w0.getLsbD 6
  allowance := w0.extractLsb' 8 8
  range := ⟨w1, w2⟩
  term := w3.extractLsb' 0 16
  waitLimit := w3.extractLsb' 16 16

/-- The handle in bits 14..0 of a word (13.3). -/
def handleOf (w : Word) : Handle := ⟨Fin.ofNat 128 (fieldOf w 0 7), w.extractLsb' 7 8⟩

/-- The ticket in bits 13..0 of a word (13.3). -/
def ticketOf (w : Word) : Ticket := ⟨Fin.ofNat 64 (fieldOf w 0 6), w.extractLsb' 6 8⟩

/-- The new term of a RENEW, in bits 15..0 of request word 3 (13.3). -/
def newTermOf (w3 : Word) : BitVec 16 := w3.extractLsb' 0 16

/-- A number given as a whole word, where it names one of `n` things (R189). -/
def numberOf (n : Nat) (w : Word) : Option (Fin n) := if h : w.toNat < n then some ⟨w.toNat, h⟩ else none

/-! ### SET_AGENT (R133, R189) -/

/-- The settings of one conduct score as a parameter word of SET_AGENT carries them: threshold 7..0, penalty 15..8, class
17..16; none where one of the three is out of range (R133, R189). -/
def settingsParam (w : Word) : Option ScoreSettings :=
  match scoreClassOf (fieldOf w 16 2) with
  | none => none
  | some c =>
    if fieldOf w 0 8 ≤ 100 ∧ 1 ≤ fieldOf w 8 8 ∧ fieldOf w 8 8 ≤ 50 then some ⟨fieldOf w 0 8, fieldOf w 8 8, c⟩ else none

/-- The three settings of SET_AGENT's conduct part, in parameter words 2, 3 and 4; none where one is out of range (R133). -/
def conductParams (ps : Vector Word 6) : Option (ScoreSettings × ScoreSettings × ScoreSettings) :=
  match settingsParam ps[2], settingsParam ps[3], settingsParam ps[4] with
  | some o, some a, some t => some (o, a, t)
  | _, _, _ => none

/-- SET_AGENT's port part, in parameter word 1: class 5..4 and lease limit 15..8; none where one is out of range (R133). -/
def portParams (ps : Vector Word 6) : Option (ArbiterClass × Nat) :=
  match arbiterClassOf (fieldOf ps[1] 4 2) with
  | none => none
  | some c => if fieldOf ps[1] 8 8 ≤ 16 then some (c, fieldOf ps[1] 8 8) else none

/-- SET_AGENT's port part flag: bit 0 of parameter word 1 (R189). -/
def portFlagged (ps : Vector Word 6) : Bool := ps[1].getLsbD 0

/-- SET_AGENT's conduct part flag: bit 1 of parameter word 1 (R189). -/
def conductFlagged (ps : Vector Word 6) : Bool := ps[1].getLsbD 1

/-! ### The profile block (R177, 13.6) -/

/-- Bits `lo + len - 1 .. lo` of a profile word, as a number. -/
def halfField (h : Half) (lo len : Nat) : Nat := (h.extractLsb' lo len).toNat

/-- Two profile words, low half first, as one number (13.6). -/
def joinHalves (low high : Half) : Word := high ++ low

/-- Profile word `n`. -/
def profileWord (st : Vector Half 48) (n : Nat) : Half := st.toList.getD n 0

/-- The partition entry at words 1 + 5e .. 5 + 5e; an undefined policy code, which `partitionInRange` refuses, reads CLOSED. -/
def readPartition (st : Vector Half 48) (e : Nat) : Partition :=
  let w := profileWord st (1 + 5 * e)
  { valid := w.getLsbD 0
    policy := (policyOf (halfField w 1 2)).getD .closed
    firstAgent := Fin.ofNat 32 (halfField w 3 5)
    lastAgent := Fin.ofNat 32 (halfField w 8 5)
    range := ⟨joinHalves (profileWord st (2 + 5 * e)) (profileWord st (3 + 5 * e)),
      joinHalves (profileWord st (4 + 5 * e)) (profileWord st (5 + 5 * e))⟩ }

/-- Every field of the partition entry is in its range, valid or not, and no bit outside the fields is set (R177, 13.6). -/
def partitionInRange (largest : Word) (st : Vector Half 48) (e : Nat) : Bool :=
  let w := profileWord st (1 + 5 * e)
  let p := readPartition st e
  (policyOf (halfField w 1 2)).isSome && halfField w 13 3 == 0 && decide (p.firstAgent ≤ p.lastAgent) &&
    p.range.wellFormed largest

/-- The settings of one conduct score as a profile word carries them: threshold 6..0, penalty 12..7, class 14..13 (13.6). -/
def readSettings (h : Half) : ScoreSettings :=
  ⟨halfField h 0 7, halfField h 7 6, (scoreClassOf (halfField h 13 2)).getD .advisory⟩

/-- The settings word is in range (R177). -/
def settingsInRange (h : Half) : Bool :=
  decide (halfField h 0 7 ≤ 100) && decide (1 ≤ halfField h 7 6) && decide (halfField h 7 6 ≤ 50) &&
    (scoreClassOf (halfField h 13 2)).isSome && !h.getLsbD 15

/-- A word that holds a number 1..255 in bits 7..0 and nothing above (the hold period and the collection window, R177). -/
def unitsInRange (h : Half) : Bool := decide (1 ≤ h.toNat) && decide (h.toNat ≤ 255)

/-- What a profile block carries (R177). -/
structure Profile where
  map : Vector Partition 8
  overstay : ScoreSettings
  abandon : ScoreSettings
  trespass : ScoreSettings
  unitCode : BitVec 2
  yieldFlag : Bool
  holdPeriod : BitVec 8
  collectWindow : BitVec 8
  deriving DecidableEq, Repr

/-- The block in the staging area (13.6). -/
def readProfile (st : Vector Half 48) : Profile where
  map := Vector.ofFn fun e : Fin 8 => readPartition st e.val
  overstay := readSettings (profileWord st 41)
  abandon := readSettings (profileWord st 42)
  trespass := readSettings (profileWord st 43)
  unitCode := (profileWord st 44).extractLsb' 0 2
  yieldFlag := (profileWord st 44).getLsbD 2
  holdPeriod := (profileWord st 45).extractLsb' 0 8
  collectWindow := (profileWord st 46).extractLsb' 0 8

/-- The sum of all 48 words modulo 65,536 (R177). -/
def profileSum (st : Vector Half 48) : Half := st.toList.foldl (· + ·) 0

/-- Some two valid entries intersect (R6). -/
def someValidIntersect : List Partition → Bool
  | [] => false
  | p :: ps => (p.valid && ps.any fun q => q.valid && p.range.intersects q.range) || someValidIntersect ps

/-- Test 5 of LOAD_PROFILE passes: every field is in its range and no two valid entries intersect (R178). -/
def profileFieldsInRange (largest : Word) (st : Vector Half 48) : Bool :=
  ((List.range 8).all fun e => partitionInRange largest st e) &&
    settingsInRange (profileWord st 41) && settingsInRange (profileWord st 42) && settingsInRange (profileWord st 43) &&
    halfField (profileWord st 44) 3 13 == 0 && unitsInRange (profileWord st 45) && unitsInRange (profileWord st 46) &&
    !someValidIntersect (readProfile st).map.toList

end Sys2Proof.Machine
end

