-- ==== Sys2Proof/Machine/Ops.lean ====
section
/-! DEFINITION. The named operations the commands are made of: reading and writing one record, the freeing, emptying and readying
steps, the grant pass, charges and changes of standing, answers and results. -/

namespace Sys2Proof.Machine

/-! ### Reading and writing one record -/

/-- The record of a slot. -/
def State.slot (s : State) (k : SlotNo) : LeaseSlot := s.slots[k]

/-- The record of a cell. -/
def State.cell (s : State) (c : CellNo) : WaitCell := s.cells[c]

/-- The record of an agent. -/
def State.agent (s : State) (a : AgentNo) : AgentRecord := s.agents[a]

/-- The slot's record replaced. -/
def State.setSlot (s : State) (k : SlotNo) (x : LeaseSlot) : State := { s with slots := s.slots.set k x }

/-- The slot's state replaced; its generation stays (R28). -/
def State.setSlotState (s : State) (k : SlotNo) (x : SlotState) : State := s.setSlot k ⟨(s.slot k).generation, x⟩

/-- The cell's record replaced. -/
def State.setCell (s : State) (c : CellNo) (x : WaitCell) : State := { s with cells := s.cells.set c x }

/-- The cell's state replaced; its generation stays (R92). -/
def State.setCellState (s : State) (c : CellNo) (x : CellState) : State := s.setCell c ⟨(s.cell c).generation, x⟩

/-- The agent's record replaced. -/
def State.setAgent (s : State) (a : AgentNo) (x : AgentRecord) : State := { s with agents := s.agents.set a x }

/-- A raise of an interrupt source: its flag is set and its detail overwritten, enabled or not (R184). -/
def State.raise (s : State) (x : Source) (detail : Nat) : State :=
  { s with sources := s.sources.set x.number ⟨true, BitVec.ofNat 8 detail, s.sources[x.number].enabled⟩ }

/-! ### Times -/

/-- A number of whole units as a timer amount, in thousandths of a unit (log 7). -/
def units (n : Nat) : Nat := n * 1000

/-- A timer amount shown in whole units, rounded up, and never as 0: a timer still in its record with amount 0 is one whose expiry is not
yet taken (R19, R20; log 27). -/
def shownUnits (amount : Nat) : Nat := max 1 ((amount + 999) / 1000)

/-- The hold period in force, as a timer amount. -/
def State.holdAmount (s : State) : Nat := units s.holdPeriod.toNat

/-- The collection window in force, as a timer amount. -/
def State.collectAmount (s : State) : Nat := units s.collectWindow.toNat

/-! ### Counts, claims and positions, derived at every use -/

/-- The agent's owned-slot count (R30). -/
def State.ownedSlots (s : State) (a : AgentNo) : Nat := s.slots.toList.countP fun x => x.state.ownedBy a

/-- The agent's ticket count (R93). -/
def State.ticketCount (s : State) (a : AgentNo) : Nat := s.cells.toList.countP fun x => x.state.ownedBy a

/-- The agent's standing (R128). -/
def State.standing (s : State) (a : AgentNo) : Standing := (s.agent a).standing

/-- Some range-holding lease, fences included, conflicts with the claim (R76, R99 (a)). -/
def State.heldAgainst (s : State) (q : Claim) : Bool :=
  s.slots.toList.any fun x => x.state.claim?.any fun c => c.conflicts q

/-- Some WAITING entry conflicts with the claim (R40, R76, R84). -/
def State.waitedAgainst (s : State) (q : Claim) : Bool :=
  s.cells.toList.any fun x => x.state.waiting?.any fun e => e.claim.conflicts q

/-- The sweep fence conflicts with the claim (R76, R153). -/
def State.fencedAgainst (s : State) (q : Claim) : Bool := s.sweep.fence?.any fun c => c.conflicts q

/-- The lowest-numbered FREE slot (R31). -/
def State.lowestFree (s : State) : Option SlotNo := (List.finRange 128).find? fun k => (s.slot k).state.isFree

/-- The lowest-numbered EMPTY cell (R95). -/
def State.lowestEmpty (s : State) : Option CellNo := (List.finRange 64).find? fun c => (s.cell c).state.isEmpty

/-- The cells ahead of this one in the list (R94). -/
def State.ahead (s : State) (c : CellNo) : List CellNo := s.order.takeWhile (· != c)

/-- The position of the cell's entry in the list (R94). -/
def State.position (s : State) (c : CellNo) : Nat := (s.ahead c).length

/-! ### Handles and tickets -/

/-- The handle a slot has now (R29). -/
def State.handleAt (s : State) (k : SlotNo) : Handle := ⟨k, (s.slot k).generation⟩

/-- The ticket a cell has now (R92). -/
def State.ticketAt (s : State) (c : CellNo) : Ticket := ⟨c, (s.cell c).generation⟩

/-- A slot in this state can be named by a current handle: HELD (a fence too), LAPSED or REVOKED (R29). -/
def SlotState.nameable : SlotState → Bool
  | .free => false
  | .reserved _ _ => false
  | .held _ _ => true
  | .lapsed _ _ => true
  | .revoked _ _ => true
  | .fence _ => true

/-- The handle is current (R29). -/
def State.handleCurrent (s : State) (h : Handle) : Bool :=
  decide ((s.slot h.slot).generation = h.generation) && (s.slot h.slot).state.nameable

/-- The ticket is current (R92). -/
def State.ticketCurrent (s : State) (t : Ticket) : Bool :=
  decide ((s.cell t.cell).generation = t.generation) && !(s.cell t.cell).state.isEmpty

/-! ### The freeing step (R32), without the grant pass it calls for -/

/-- A slot emptied: FREE, every other field absent, the generation advanced; a FREE slot stays as it is (R28, R32). -/
def LeaseSlot.freed (x : LeaseSlot) : LeaseSlot := if x.state.isFree then x else ⟨x.generation + 1, .free⟩

/-- The freeing step on one slot (R32). -/
def State.freeSlot (s : State) (k : SlotNo) : State := s.setSlot k (s.slot k).freed

/-- The freeing step on every slot whose state satisfies `p` (R50, R51). -/
def State.freeSlotsWhere (s : State) (p : SlotState → Bool) : State :=
  { s with slots := s.slots.map fun x => if p x.state then x.freed else x }

/-- The freeing step on a RESERVED slot (R37); any other slot stays as it is (log 25). -/
def State.freeReserved (s : State) (k : SlotNo) : State :=
  match (s.slot k).state with
  | .reserved _ _ => s.freeSlot k
  | _ => s

/-! ### The emptying step (R96), without the grant pass -/

/-- A cell emptied: EMPTY, every other field absent, the generation advanced; an EMPTY cell stays as it is (R92, R96). -/
def WaitCell.emptied (x : WaitCell) : WaitCell := if x.state.isEmpty then x else ⟨x.generation + 1, .empty⟩

/-- The emptying step on one cell (R96). -/
def State.emptyCell (s : State) (c : CellNo) : State :=
  { s with cells := s.cells.set c (s.cell c).emptied, order := s.order.filter (· != c) }

/-- The emptying step on every cell whose state satisfies `p` (R113, R114). -/
def State.emptyCellsWhere (s : State) (p : CellState → Bool) : State :=
  { s with
    cells := s.cells.map fun x => if p x.state then x.emptied else x
    order := s.order.filter fun c => !p (s.cell c).state }

/-! ### The readying step (R97) for outcomes other than GRANTED, without the grant pass -/

/-- A WAITING cell whose entry satisfies `p` becomes READY with the outcome; any other cell stays as it is (R97). -/
def WaitCell.readied (x : WaitCell) (p : WaitEntry → Bool) (o : Ending) (window : Nat) : WaitCell :=
  match x.state with
  | .waiting e _ _ => if p e then ⟨x.generation, .ended e o window⟩ else x
  | _ => x

/-- The readying step on every WAITING entry that satisfies `p` (R111, R112). -/
def State.readyWhere (s : State) (p : WaitEntry → Bool) (o : Ending) : State :=
  { s with cells := s.cells.map fun x => x.readied p o s.collectAmount }

/-- The readying step on one cell (R109, R175). -/
def State.readyCell (s : State) (c : CellNo) (o : Ending) : State :=
  s.setCell c ((s.cell c).readied (fun _ => true) o s.collectAmount)

/-- The outcome GRANTED of a READY entry becomes CANCELLED; its lease slot becomes absent and its window runs on (R112). -/
def State.cancelGrant (s : State) (c : CellNo) : State :=
  match (s.cell c).state with
  | .granted e left _ => s.setCellState c (.ended e .cancelled left)
  | _ => s

/-! ### The grant pass (R98 to R102) -/

/-- The lease a grant writes, with the entry's fields and the whole budget (R35). -/
def WaitEntry.lease (e : WaitEntry) : AgentLease :=
  { owner := e.agent, mode := e.mode, range := e.range, term := e.term, auto := e.auto, allowance := e.allowance,
    budget := e.allowance }

/-- Some WAITING entry older than the cell's conflicts with the entry (R99 (b)). -/
def State.olderAgainst (s : State) (c : CellNo) (e : WaitEntry) : Bool :=
  (s.ahead c).any fun d => (s.cell d).state.waiting?.any fun o => o.claim.conflicts e.claim

/-- Conditions (a) to (d) of the grant pass (R99). -/
def State.mayGrant (s : State) (c : CellNo) (e : WaitEntry) : Bool :=
  !s.heldAgainst e.claim && !s.olderAgainst c e && !s.sweep.fallsOn e.agent e.range &&
    decide (s.ownedSlots e.agent < (s.agent e.agent).leaseLimit)

/-- The grant of the cell's entry into slot `k` (R35, R100). -/
def State.grantEntry (s : State) (c : CellNo) (e : WaitEntry) (k : SlotNo) : State :=
  (s.setSlotState k (.reserved e.lease c)).setCellState c (.granted e s.collectAmount k)

/-- One visit of the pass at a WAITING entry, slot `k` being the lowest FREE one (R99). -/
def State.visitEntry (s : State) (c : CellNo) (e : WaitEntry) (k : SlotNo) : State :=
  if s.mayGrant c e then s.grantEntry c e k else s

/-- The walk of the grant pass over the cells still ahead of it (R99, R101). -/
def grantWalk : List CellNo → State → State
  | [], s => s
  | c :: rest, s =>
    match (s.cell c).state with
    | .waiting e _ _ =>
      match s.lowestFree with
      | none => s
      | some k => grantWalk rest (s.visitEntry c e k)
    | _ => grantWalk rest s

/-- The grant pass (R99). -/
def State.grantPass (s : State) : State := grantWalk s.order s

/-- Some entry that was WAITING before is no longer WAITING (R98, third row). -/
def someLeftWaiting (before after : State) : Bool :=
  (List.finRange 64).any fun c => (before.cell c).state.waiting?.isSome && (after.cell c).state.waiting?.isNone

/-- A grant pass where the event made some entry leave WAITING, and none otherwise (R98; log 16). -/
def State.passIfReadied (before after : State) : State := if someLeftWaiting before after then after.grantPass else after

/-! ### Charges, credits and changes of standing -/

/-- The consequences of a derivation that found `old` before: where the standing differs, the raise of R129, and on entering
BARRED the readying of R130. -/
def State.standingChanged (s : State) (a : AgentNo) (old : Standing) : State :=
  if s.standing a = old then s
  else
    match s.standing a with
    | .barred => (s.raise .agentBarred a.val).readyWhere (fun e => e.agent == a) .barred
    | .advised => s.raise .agentAdvised a.val
    | .good => s

/-- The agent's record changed, and its standing derived again with the consequences of a change (R125, R127, R128). -/
def State.updateConduct (s : State) (a : AgentNo) (r : AgentRecord) : State :=
  (s.setAgent a r).standingChanged a (s.standing a)

/-- A charge to one conduct score of the agent (R125). -/
def State.charge (s : State) (a : AgentNo) (n : ScoreName) : State := s.updateConduct a ((s.agent a).charged n)

/-- The credit of a clean release (R127). -/
def State.credit (s : State) (a : AgentNo) : State := s.updateConduct a (s.agent a).credited

/-! ### Leases -/

/-- A HELD or LAPSED lease becomes REVOKED with a fresh hold (R44). -/
def State.revokeLease (s : State) (k : SlotNo) (l : AgentLease) : State := s.setSlotState k (.revoked l s.holdAmount)

/-- A renewal: the timer restarts with the term and the budget falls by one (R38, R40). -/
def State.renewLease (s : State) (k : SlotNo) (l : AgentLease) : State :=
  s.setSlotState k (.held { l with budget := l.budget - 1 } (units l.term.toNat))

/-! ### Answers, results and RESET -/

/-- A request row taken: its kind must be that of the request word 0 received, and the request not yet taken; then the answer
stands in the tenure. A transfer that is not the next one due is not acknowledged (R63, R68; log 1, 2, 3). -/
def State.takeRequest (s : State) (kind : Option RequestKind) (serve : AgentNo → Word → State × Answer) : State :=
  match s.tenure with
  | some ⟨a, .requesting w0⟩ =>
    if requestKindOf w0 = kind then
      let r := serve a w0
      { r.1 with tenure := some ⟨a, .answered r.2.word0 r.2.word1⟩, mack := true }
    else { s with mack := false }
  | _ => { s with mack := false }

/-- The result of a command: the code in the result word, the values in parameter words 4 and 5 (R163). -/
def State.finish (s : State) (r : ResultCode) (v4 v5 : Word) : State :=
  { s with result := r, params := (s.params.set 4 v4).set 5 v5 }

/-- A command that gives no result values, or is refused: 0 in words 4 and 5 (R163). -/
def State.conclude (s : State) (r : ResultCode) : State := s.finish r 0 0

/-- What the part does outside RESET; while RESET is held it takes nothing (R183; log 17). -/
def State.unlessReset (s : State) (f : State → State) : State := if s.resetHeld then s else f s

end Sys2Proof.Machine
end

