-- ==== Sys2Proof/Machine/Bus.lean ====
section
/-! DEFINITION. The Request Arbiter, the ends of a tenure, attach and detach (R58 to R67, R120, R121). -/

namespace Sys2Proof.Machine

/-! ### The arbiter -/

/-- The agent is eligible: its port is ATTACHED and its REQ line is high (R58). -/
def State.eligible (s : State) (a : AgentNo) : Bool := decide (s.port a = .attached) && s.req.getLsbD a.val

/-- The agent is eligible and of this class (R60, R62). -/
def State.contends (s : State) (c : ArbiterClass) (a : AgentNo) : Bool :=
  s.eligible a && decide ((s.agent a).arbiterClass = c)

/-- The lowest-numbered contender of the class that satisfies `p`. -/
def State.firstContender (s : State) (c : ArbiterClass) (p : AgentNo → Bool) : Option AgentNo :=
  (List.finRange 32).find? fun a => s.contends c a && p a

/-- The LOW rotation's choice: numbered q to 31 first, then 0 to q - 1 (R60). -/
def State.lowChoice (s : State) : Option AgentNo :=
  (s.firstContender .low fun a => decide (s.lowPointer.val ≤ a.val)).or
    (s.firstContender .low fun a => decide (a.val < s.lowPointer.val))

/-- The arbiter's choice: HIGH agents from the rotation pointer up, then the LOW position, then HIGH agents below it (R60). -/
def State.arbiterChoice (s : State) : Option AgentNo :=
  ((s.firstContender .high fun a => decide (s.rotation.val ≤ a.val)).or s.lowChoice).or
    (s.firstContender .high fun a => decide (a.val < s.rotation.val))

/-- The bus granted to an agent: GNT raised, the tenure limit started, the pointers moved past the agent (R61). -/
def State.grantBus (s : State) (a : AgentNo) : State :=
  let s' := { s with tenure := some ⟨a, .awaitingFirst Config.tenureLimit⟩ }
  match (s.agent a).arbiterClass with
  | .high => { s' with rotation := a.succ }
  | .low => { s' with rotation := 0, lowPointer := a + 1 }

/-- A choice, when the bus is free and some agent is eligible (R60). -/
def State.choose (s : State) : State :=
  match s.tenure with
  | some _ => s
  | none =>
    match s.arbiterChoice with
    | some a => s.grantBus a
    | none => s

/-- ARBITER_CHOICE, with the levels of the REQ lines at that moment (R60, R61). -/
def execArbiterChoice (req : Word) (s : State) : Host.Outcome State Fault Refusal :=
  .next ({ s with req := req }.unlessReset State.choose)

/-! ### The ends of a tenure -/

/-- TENURE_END: the reads of answer words 0 and 1, the second of which ends the tenure (R63); before the request is taken a read
is not acknowledged. -/
def execTenureEnd (s : State) : Host.Outcome State Fault Refusal :=
  .next
    (match s.tenure with
    | some ⟨_, .answered _ a1⟩ => { s with tenure := none, md := some a1, mack := true }
    | _ => { s with mack := false })

/-- TENURE_LIMIT_EXPIRY: when the limit has run out before the first request word, the tenure ends, the pointers staying (R64). Before
that there is no such event (log 6). -/
def execTenureLimitExpiry (s : State) : Host.Outcome State Fault Refusal :=
  .next
    (match s.tenure with
    | some ⟨_, .awaitingFirst 0⟩ => { s with tenure := none }
    | _ => s)

/-! ### Attach and detach -/

/-- ATTACH: the agent's ATTACH line rises; on a DETACHED port the port becomes ATTACHED, which its record shows at once (R58,
R120). On any other port, and while RESET is held, only the line's level changes (log 17, 18, 19). -/
def execAttach (a : AgentNo) (s : State) : Host.Outcome State Fault Refusal :=
  .next { s with attach := setLine s.attach a true }

/-- The tenure of a detaching agent ends, an answer already formed being discarded (R65). -/
def State.endTenureOf (s : State) (a : AgentNo) : State :=
  match s.tenure with
  | some t => if t.agent = a then { s with tenure := none } else s
  | none => s

/-- What the fall of ATTACH does on an ATTACHED port, the port being DETACHED already (R50, R113, R121). -/
def State.detached (s : State) (a : AgentNo) : State :=
  ((((s.endTenureOf a).freeSlotsWhere fun x => x.ownedBy a).emptyCellsWhere fun x => x.ownedBy a).raise .agentDetached
    a.val).grantPass

/-- DETACH: the agent's ATTACH line falls (R121). On a port that is not ATTACHED, and while RESET is held, only the line's level
changes (log 17, 18). -/
def execDetach (a : AgentNo) (s : State) : Host.Outcome State Fault Refusal :=
  let s' := { s with attach := setLine s.attach a false }
  .next (if s.port a = .attached then s'.unlessReset fun x => x.detached a else s')

end Sys2Proof.Machine
end

