-- ==== Sys2Proof/Machine/CheckPort.lean ====
section
/-! DEFINITION. Lookups and the trespass charges they send (chapter 7, R126). -/

namespace Sys2Proof.Machine

/-- Some slot whose state satisfies `p` covers the granule. -/
def State.someSlot (s : State) (p : SlotState → Bool) : Bool := s.slots.toList.any fun x => p x.state

/-- A fence on the granule (R139, row 3). -/
def SlotState.fenceOn (g : Word) : SlotState → Bool
  | .fence r => r.covers g
  | _ => false

/-- A HELD lease of this agent and mode on the granule (R139, rows 4 and 5). -/
def SlotState.heldOn (a : AgentNo) (m : LeaseMode) (g : Word) : SlotState → Bool
  | .held l _ => decide (l.owner = a) && decide (l.mode = m) && l.range.covers g
  | _ => false

/-- A range-holding lease of another agent, of this mode, on the granule (R139, rows 6 and 7). -/
def SlotState.otherOn (a : AgentNo) (m : LeaseMode) (g : Word) (st : SlotState) : Bool :=
  st.holding?.any fun l => decide (l.owner ≠ a) && decide (l.mode = m) && l.range.covers g

/-- A RESERVED or LAPSED lease of this agent on the granule (R139, row 8). -/
def SlotState.ownIdleOn (a : AgentNo) (g : Word) : SlotState → Bool
  | .reserved l _ => decide (l.owner = a) && l.range.covers g
  | .lapsed l _ => decide (l.owner = a) && l.range.covers g
  | _ => false

/-- What the default policy of the partition says (R4; R139, rows 9 to 11). -/
def policyAnswer (p : Policy) (kind : AccessKind) : CheckAnswer :=
  match p, kind with
  | .openAccess, _ => .allow
  | .readOnly, .read => .allow
  | .readOnly, .write => .deny .policy
  | .closed, _ => .deny .policy

/-- The eleven rows of the decision on granule `g`, from the top (R139). -/
def State.decideAccess (s : State) (a : AgentNo) (g : Word) (kind : AccessKind) : CheckAnswer :=
  if s.port a ≠ .attached then .deny .offline
  else
    match openPartition s.map a g with
    | none => .deny .outside
    | some p =>
      if s.someSlot (SlotState.fenceOn g) then .deny .fence
      else if s.someSlot (SlotState.heldOn a .exclusive g) then .allow
      else if s.someSlot (SlotState.heldOn a .shared g) then
        match kind with
        | .read => .allow
        | .write => .deny .sharedOnly
      else if s.someSlot (SlotState.otherOn a .exclusive g) then .deny .heldByOther
      else if decide (kind = .write) && s.someSlot (SlotState.otherOn a .shared g) then .deny .heldByOther
      else if s.someSlot (SlotState.ownIdleOn a g) then .deny .notHeld
      else policyAnswer p.policy kind

/-- The denial sends a charge: every DENY but OFFLINE (R144). -/
def CheckAnswer.charges : CheckAnswer → Bool
  | .allow => false
  | .deny .offline => false
  | .deny _ => true

/-- A lookup taken: the answer returned, CK_DONE rising with it, and a charge sent for a denial other than OFFLINE (R137, R144, R188). -/
def State.takeLookup (s : State) (l : Lookup) : State :=
  let answer := s.decideAccess l.agent (s.granuleOf l.addr) l.kind
  { s with
    presented := none
    ckAnswer := some answer
    charges := if answer.charges then s.charges ++ [l.agent] else s.charges }

/-- The charge queue has room (R126). -/
def State.chargeRoom (s : State) : Bool := decide (s.charges.length < Config.chargeQueueSize)

/-- The check port takes the lookup presented, if there is one: outside RESET when the charge queue has room (R126), and while RESET is
held by answering DENY OFFLINE without a charge (R183). -/
def State.takePresented (s : State) : State :=
  match s.presented with
  | none => s
  | some l =>
    if s.resetHeld then { s with presented := none, ckAnswer := some (.deny .offline) }
    else if s.chargeRoom then s.takeLookup l
    else s

/-- A rise of CK_VALID with the oldest lookup not yet presented, which is taken at the rise if it can be; CK_DONE is low until it is
taken. There is no rise while a lookup stands presented (R137, R188). -/
def State.presentNext (s : State) : State :=
  match s.presented, s.heldLookups with
  | none, l :: rest => State.takePresented { s with presented := some l, heldLookups := rest, ckAnswer := none }
  | _, _ => s

/-- What the controller does of its own accord with a lookup it sent before the answer to the one before: where that answer still stands,
CK_VALID falls and CK_DONE with it; where CK_DONE is low, CK_VALID rises with the lookup (R188; DESIGN CHOICE, log 10). -/
def State.pollCheckPort (s : State) : State :=
  match s.presented, s.heldLookups, s.ckAnswer with
  | none, _ :: _, some _ => { s with ckAnswer := none }
  | _, _, _ => s.presentNext

/-- LOOKUP: a rise of CK_VALID (R137, R139, R188). It comes with this lookup where no other waits, else with the oldest that waits; while
one stands presented there is no rise, and this lookup waits for its own (log 10). -/
def execLookup (a : AgentNo) (addr : BitVec 40) (kind : AccessKind) (s : State) : Host.Outcome State Fault Refusal :=
  .next (State.presentNext { s with heldLookups := s.heldLookups ++ [⟨a, addr, kind⟩] })

/-- The oldest charge applied to the agent's record, with the consequences of a change of standing (R126, R144). -/
def State.applyTrespass (s : State) (a : AgentNo) (rest : List AgentNo) : State :=
  s.passIfReadied ({ s with charges := rest }.charge a .trespass)

/-- TRESPASS_CHARGE: the Agent Table takes the oldest queued charge; then the lookup presented, for which the queue now has room, is taken
(R126; that it is taken in the same step is log 10). -/
def execTrespassCharge (s : State) : Host.Outcome State Fault Refusal :=
  .next
    (match s.charges with
    | [] => s
    | a :: rest => (s.applyTrespass a rest).takePresented)

end Sys2Proof.Machine
end

