-- ==== Sys2Proof/Machine/Requests.lean ====
section
/-! DEFINITION. The requests of agents: ACQUIRE, RENEW, RELEASE (chapter 4), POLL and WITHDRAW (chapter 5), the unknown request,
and the write of request word 0. -/

namespace Sys2Proof.Machine

/-- An answer that carries neither handle nor value (R69). -/
def Answer.plain (c : AnswerCode) : Answer := ⟨c, 0, 0⟩

/-- An answer that carries the handle or ticket named in the request, and value 0 (R69, R108). -/
def Answer.named (c : AnswerCode) (name : BitVec 16) : Answer := ⟨c, name, 0⟩

/-! ### ACQUIRE (R70 to R81) -/

/-- The ACQUIRE is malformed: its mode, its range or its term is out of range (R70, R188). -/
def State.malformedAcquire (s : State) (q : AcquireFields) : Bool :=
  q.mode.isNone || !q.range.wellFormed s.largestGranule || q.term == 0

/-- What the immediate-grant test finds: the lowest FREE slot, or the first obstacle in the order of R81. -/
inductive Immediate where
  | grant (k : SlotNo)
  | blocked (r : Reason)
  deriving DecidableEq, Repr

/-- The immediate-grant test (R76), with the obstacles in the order R81 names them. -/
def State.immediate (s : State) (q : Claim) : Immediate :=
  if s.heldAgainst q || s.waitedAgainst q then .blocked .conflict
  else if s.fencedAgainst q then .blocked .sweep
  else
    match s.lowestFree with
    | some k => .grant k
    | none => .blocked .noSlot

/-- The entry a deferral writes, or a grant copies its fields from (R34, R81). -/
def AcquireFields.entry (q : AcquireFields) (a : AgentNo) (m : LeaseMode) : WaitEntry :=
  { agent := a, mode := m, range := q.range, term := q.term, auto := q.auto, allowance := q.allowance }

/-- The wait-left timer of a deferral: absent when the limit is 65,535 (R81). -/
def waitTimer (limit : BitVec 16) : Option Nat := if limit = 65535 then none else some (units limit.toNat)

/-- The immediate grant (R34, R77). -/
def State.grantAtOnce (s : State) (e : WaitEntry) (k : SlotNo) : State × Answer :=
  (s.setSlotState k (.held e.lease (units e.term.toNat)), ⟨.granted, (s.handleAt k).bits, wordOf e.term.toNat⟩)

/-- A refusal without waiting: FULL, with its event, when the slot obstacle is the only one, else CONFLICT (R78). -/
def State.refuseAtOnce (s : State) (a : AgentNo) : Reason → State × Answer
  | .noSlot => (s.raise .tableFull a.val, .plain .full)
  | .conflict => (s, .plain .conflict)
  | .sweep => (s, .plain .conflict)

/-- The deferral into cell `c`, at the tail of the list (R81, R95). -/
def State.defer (s : State) (e : WaitEntry) (r : Reason) (wait : Option Nat) (c : CellNo) : State × Answer :=
  let s' := { s.setCellState c (.waiting e r wait) with order := s.order ++ [c] }
  ((match r with
    | .noSlot => s'.raise .tableFull e.agent.val
    | .conflict => s'
    | .sweep => s'),
   ⟨.deferred, (s.ticketAt c).bits, wordOf s.order.length⟩)

/-- What follows an obstacle (R78 to R81). -/
def State.blockedAcquire (s : State) (e : WaitEntry) (r : Reason) (limit : BitVec 16) : State × Answer :=
  if limit = 0 then s.refuseAtOnce e.agent r
  else if Config.ticketsPerAgent ≤ s.ticketCount e.agent then (s, .plain .tickets)
  else
    match s.lowestEmpty with
    | none => (s.raise .waitFull e.agent.val, .plain .waitFull)
    | some c => s.defer e r (waitTimer limit) c

/-- An ACQUIRE that has passed the refusals of R70 to R75 (R76 to R81). -/
def State.acquireOrWait (s : State) (e : WaitEntry) (limit : BitVec 16) : State × Answer :=
  match s.immediate e.claim with
  | .grant k => s.grantAtOnce e k
  | .blocked r => s.blockedAcquire e r limit

/-- The ten tests of an ACQUIRE, in their order (R71). -/
def State.serveAcquire (s : State) (a : AgentNo) (q : AcquireFields) : State × Answer :=
  if s.malformedAcquire q then (s, .plain .malformed)
  else
    match q.mode with
    | none => (s, .plain .malformed)
    | some m =>
      if s.standing a = .barred then (s, .plain .barred)
      else if !admissible s.map a q.range then (s, .plain .bounds)
      else if s.sweep.refusesAcquire a q.range then (s, .plain .sweeping)
      else if (s.agent a).leaseLimit ≤ s.ownedSlots a then (s, .plain .limit)
      else s.acquireOrWait (q.entry a m) q.waitLimit

/-- ACQUIRE (R71). -/
def execAcquire (w1 w2 w3 : Word) (s : State) : Host.Outcome State Fault Refusal :=
  .next (s.takeRequest (some .acquire) fun a w0 => s.serveAcquire a (acquireFields w0 w1 w2 w3))

/-! ### RENEW (R82 to R85) and RELEASE (R86) -/

/-- The tests a RENEW of a HELD lease meets, in their order; none when it passes them all (R84). -/
def State.renewRefusal (s : State) (a : AgentNo) (l : AgentLease) : Option AnswerCode :=
  if s.standing a = .barred then some .barred
  else if s.sweep.matchesLease l then some .sweeping
  else if l.budget = 0 then some .exhausted
  else if s.yieldFlag && s.waitedAgainst l.claim then some .yield
  else none

/-- The lease with the new term of a RENEW; 0 keeps the term (R38). -/
def AgentLease.withTerm (l : AgentLease) (newTerm : BitVec 16) : AgentLease :=
  if newTerm = 0 then l else { l with term := newTerm }

/-- A RENEW of a HELD lease of the requesting agent (R84, R85). -/
def State.renewHeld (s : State) (h : Handle) (l : AgentLease) (newTerm : BitVec 16) : State × Answer :=
  match s.renewRefusal l.owner l with
  | some c => (s, .named c h.bits)
  | none =>
    (s.renewLease h.slot (l.withTerm newTerm), ⟨.renewed, h.bits, wordOf (l.withTerm newTerm).term.toNat⟩)

/-- A RENEW (R82 to R85). -/
def State.serveRenew (s : State) (a : AgentNo) (h : Handle) (newTerm : BitVec 16) : State × Answer :=
  if !s.handleCurrent h then (s, .named .stale h.bits)
  else if !(s.slot h.slot).state.ownedBy a then (s, .named .notOwner h.bits)
  else
    match (s.slot h.slot).state with
    | .held l _ => s.renewHeld h l newTerm
    | .lapsed _ _ => (s, .named .late h.bits)
    | .revoked _ _ => (s, .named .revoked h.bits)
    | .free => (s, .named .stale h.bits)
    | .reserved _ _ => (s, .named .stale h.bits)
    | .fence _ => (s, .named .notOwner h.bits)

/-- RENEW (R84). -/
def execRenew (w1 _w2 w3 : Word) (s : State) : Host.Outcome State Fault Refusal :=
  .next (s.takeRequest (some .renew) fun a _ => s.serveRenew a (handleOf w1) (newTermOf w3))

/-- A RELEASE (R47, R86): the credit comes before the grant pass. -/
def State.serveRelease (s : State) (a : AgentNo) (h : Handle) : State × Answer :=
  if !s.handleCurrent h then (s, .named .stale h.bits)
  else if !(s.slot h.slot).state.ownedBy a then (s, .named .notOwner h.bits)
  else
    match (s.slot h.slot).state with
    | .held _ _ => (((s.freeSlot h.slot).credit a).grantPass, .named .released h.bits)
    | .lapsed _ _ => ((s.freeSlot h.slot).grantPass, .named .late h.bits)
    | .revoked _ _ => ((s.freeSlot h.slot).grantPass, .named .revoked h.bits)
    | .free => (s, .named .stale h.bits)
    | .reserved _ _ => (s, .named .stale h.bits)
    | .fence _ => (s, .named .notOwner h.bits)

/-- RELEASE (R86). -/
def execRelease (w1 _w2 _w3 : Word) (s : State) : Host.Outcome State Fault Refusal :=
  .next (s.takeRequest (some .release) fun a _ => s.serveRelease a (handleOf w1))

/-! ### POLL and WITHDRAW (R103 to R108) -/

/-- The collection of a RESERVED slot: HELD, with the whole term and budget (R36); any other slot stays as it is (log 25). -/
def State.collectSlot (s : State) (k : SlotNo) : State :=
  match (s.slot k).state with
  | .reserved l _ => s.setSlotState k (.held { l with budget := l.allowance } (units l.term.toNat))
  | _ => s

/-- A POLL (R103 to R106). -/
def State.servePoll (s : State) (a : AgentNo) (t : Ticket) : State × Answer :=
  if !s.ticketCurrent t then (s, .named .stale t.bits)
  else if !(s.cell t.cell).state.ownedBy a then (s, .named .notOwner t.bits)
  else
    match (s.cell t.cell).state with
    | .waiting _ _ _ => (s, ⟨.waiting, t.bits, wordOf (s.position t.cell)⟩)
    | .granted e _ k => ((s.collectSlot k).emptyCell t.cell, ⟨.granted, (s.handleAt k).bits, wordOf e.term.toNat⟩)
    | .ended _ o _ => (s.emptyCell t.cell, .named o.answer t.bits)
    | .empty => (s, .named .stale t.bits)

/-- POLL (R103). -/
def execPoll (w1 _w2 _w3 : Word) (s : State) : Host.Outcome State Fault Refusal :=
  .next (s.takeRequest (some .poll) fun a _ => s.servePoll a (ticketOf w1))

/-- A WITHDRAW (R103, R107). -/
def State.serveWithdraw (s : State) (a : AgentNo) (t : Ticket) : State × Answer :=
  if !s.ticketCurrent t then (s, .named .stale t.bits)
  else if !(s.cell t.cell).state.ownedBy a then (s, .named .notOwner t.bits)
  else
    match (s.cell t.cell).state with
    | .waiting _ _ _ => ((s.emptyCell t.cell).grantPass, .named .withdrawn t.bits)
    | .granted _ _ k => (((s.freeReserved k).emptyCell t.cell).grantPass, .named .withdrawn t.bits)
    | .ended _ _ _ => (s.emptyCell t.cell, .named .withdrawn t.bits)
    | .empty => (s, .named .stale t.bits)

/-- WITHDRAW (R107). -/
def execWithdraw (w1 _w2 _w3 : Word) (s : State) : Host.Outcome State Fault Refusal :=
  .next (s.takeRequest (some .withdraw) fun a _ => s.serveWithdraw a (ticketOf w1))

/-! ### The unknown request and request word 0 -/

/-- UNKNOWN_REQUEST: answered MALFORMED, and nothing changes (R68, R70). -/
def execUnknownRequest (_w1 _w2 _w3 : Word) (s : State) : Host.Outcome State Fault Refusal :=
  .next (s.takeRequest none fun _ _ => (s, .plain .malformed))

/-- FIRST_REQUEST_WORD: the write of request word 0 within the tenure limit removes the limit (R63, R64). -/
def execFirstRequestWord (w0 : Word) (s : State) : Host.Outcome State Fault Refusal :=
  .next
    (match s.tenure with
    | some ⟨a, .awaitingFirst _⟩ => { s with tenure := some ⟨a, .requesting w0⟩, mack := true }
    | _ => { s with mack := false })

end Sys2Proof.Machine
end

