-- ==== Sys2Proof/Machine/Timers.lean ====
section
/-! DEFINITION. The four expiries (R40 to R42, R46, R109, R110), and one microsecond of time (R18, R22; log 7). -/

namespace Sys2Proof.Machine

/-! ### Term and hold -/

/-- The four conditions of a renewal at term expiry other than the sweep condition: auto, budget, standing and yield (R40). -/
def State.renewsButForSweep (s : State) (l : AgentLease) : Bool :=
  l.auto && decide (l.budget ≠ 0) && decide (s.standing l.owner ≠ .barred) && !(s.yieldFlag && s.waitedAgainst l.claim)

/-- The lease renews itself at its term expiry: all five conditions hold (R40). -/
def State.renewsItself (s : State) (l : AgentLease) : Bool := s.renewsButForSweep l && !s.sweep.matchesLease l

/-- The OVERSTAY charge of a lapse: made unless the sweep condition alone failed (R42). -/
def State.chargeLapse (s : State) (l : AgentLease) (charged : Bool) : State :=
  if charged then s.charge l.owner .overstay else s

/-- A lapse (R41), before any grant pass. -/
def State.lapse (s : State) (k : SlotNo) (l : AgentLease) : State :=
  ((s.setSlotState k (.lapsed l s.holdAmount)).chargeLapse l (!s.renewsButForSweep l)).raise .leaseLapsed k.val

/-- The term expiry of a HELD agent lease (R40, R41). -/
def State.termRunsOut (s : State) (k : SlotNo) (l : AgentLease) : State :=
  if s.renewsItself l then s.renewLease k l else s.passIfReadied (s.lapse k l)

/-- TERM_EXPIRY: taken when the term timer of a HELD agent lease has run out (R18); in FROZEN no expiry occurs (R20), and while the
timer has an amount left there is none to take (R18, R54; log 6). -/
def execTermExpiry (k : SlotNo) (s : State) : Host.Outcome State Fault Refusal :=
  .next
    (match (s.slot k).state with
    | .held l 0 => if s.frozen then s else s.termRunsOut k l
    | _ => s)

/-- HOLD_EXPIRY: when the hold timer of a LAPSED or REVOKED lease has run out, its slot takes the freeing step (R46); while it has an
amount left there is no expiry (R18, R55; log 6). -/
def execHoldExpiry (k : SlotNo) (s : State) : Host.Outcome State Fault Refusal :=
  .next
    (match (s.slot k).state with
    | .lapsed _ 0 => if s.frozen then s else (s.freeSlot k).grantPass
    | .revoked _ 0 => if s.frozen then s else (s.freeSlot k).grantPass
    | _ => s)

/-! ### Wait limit and collection window -/

/-- WAIT_LIMIT_EXPIRY: a WAITING entry whose wait-left timer has run out becomes READY with outcome TIMED_OUT (R109; log 6). -/
def execWaitLimitExpiry (c : CellNo) (s : State) : Host.Outcome State Fault Refusal :=
  .next
    (match (s.cell c).state with
    | .waiting _ _ (some 0) => if s.frozen then s else (s.readyCell c .timedOut).grantPass
    | _ => s)

/-- The collection expiry of a READY entry with outcome GRANTED: slot freed, cell emptied, ABANDON charged, TICKET_ABANDONED
raised, one grant pass (R110). -/
def State.abandonGrant (s : State) (c : CellNo) (a : AgentNo) (k : SlotNo) : State :=
  ((((s.freeReserved k).emptyCell c).charge a .abandon).raise .ticketAbandoned a.val).grantPass

/-- COLLECTION_EXPIRY: the collect-left timer of a READY entry has run out (R110; log 6). -/
def execCollectionExpiry (c : CellNo) (s : State) : Host.Outcome State Fault Refusal :=
  .next
    (match (s.cell c).state with
    | .granted e 0 k => if s.frozen then s else s.abandonGrant c e.agent k
    | .ended _ _ 0 => if s.frozen then s else s.emptyCell c
    | _ => s)

/-! ### One microsecond (log 7) -/

/-- How much of a unit passes in one microsecond, in thousandths, by unit code (R16). -/
def unitStep (code : BitVec 2) : Nat :=
  match code.toNat with
  | 0 => 1000
  | 1 => 100
  | 2 => 10
  | _ => 1

/-- The timer of a slot, decreased (R17, R18). -/
def SlotState.elapse (d : Nat) : SlotState → SlotState
  | .held l r => .held l (r - d)
  | .lapsed l r => .lapsed l (r - d)
  | .revoked l r => .revoked l (r - d)
  | .free => .free
  | .reserved l c => .reserved l c
  | .fence q => .fence q

/-- The timer of a cell, decreased (R17, R18). -/
def CellState.elapse (d : Nat) : CellState → CellState
  | .empty => .empty
  | .waiting e r w => .waiting e r (w.map (· - d))
  | .granted e left k => .granted e (left - d) k
  | .ended e o left => .ended e o (left - d)

/-- Every timer of the Lease Table and the Wait List, decreased (R18). -/
def State.elapseTimers (s : State) (d : Nat) : State :=
  { s with
    slots := s.slots.map fun x => ⟨x.generation, x.state.elapse d⟩
    cells := s.cells.map fun x => ⟨x.generation, x.state.elapse d⟩ }

/-- The tenure limit, one microsecond less (R64). -/
def State.elapseTenure (s : State) : State :=
  match s.tenure with
  | some ⟨a, .awaitingFirst n⟩ => { s with tenure := some ⟨a, .awaitingFirst (n - 1)⟩ }
  | _ => s

/-- The expiry a slot is due for: its timer has run out (R18). -/
def slotDue (k : SlotNo) : SlotState → Option Instr
  | .held _ 0 => some (.termExpiry k)
  | .lapsed _ 0 => some (.holdExpiry k)
  | .revoked _ 0 => some (.holdExpiry k)
  | _ => none

/-- The expiry a cell is due for: its timer has run out (R18). -/
def cellDue (c : CellNo) : CellState → Option Instr
  | .waiting _ _ (some 0) => some (.waitLimitExpiry c)
  | .granted _ 0 _ => some (.collectionExpiry c)
  | .ended _ _ 0 => some (.collectionExpiry c)
  | _ => none

/-- The expiry of the tenure limit, when it has run out (R64). -/
def tenureDue : Option Tenure → List Instr
  | some ⟨_, .awaitingFirst 0⟩ => [.tenureLimitExpiry]
  | _ => []

/-- The expiries that are due, by slot, then by cell, then the tenure limit's: an order of the model's (R18 gives none; log 8).
In FROZEN no timer expires (R20), but the tenure limit does (R64). -/
def State.dueExpiries (s : State) : List Instr :=
  (if s.frozen then []
   else (List.finRange 128).filterMap (fun k => slotDue k (s.slot k).state) ++
     (List.finRange 64).filterMap (fun c => cellDue c (s.cell c).state)) ++ tenureDue s.tenure

/-- One microsecond passes for the timers: while RUNNING every timer decreases, the tenure limit decreases whatever the Timebase
state (R22), and the expiries that come due wait in the queue (log 7, 8). -/
def State.passMicrosecond (s : State) : State :=
  let y := (if s.frozen then s else s.elapseTimers (unitStep s.unitCode)).elapseTenure
  { y with pending := y.dueExpiries }

/-- A step with no command waiting: the controller goes on with a lookup it holds back (log 10), and one microsecond passes (log 7).
While RESET is held no time passes. -/
def State.tick (s : State) : State := s.pollCheckPort.unlessReset State.passMicrosecond

end Sys2Proof.Machine
end

