-- ==== Sys2Proof/Machine/AgentCommands.lean ====
section
/-! DEFINITION. The host's commands on time and on agents: FREEZE, THAW (R20, R21), SET_AGENT, CLEAR_AGENT (R133 to R136). -/

namespace Sys2Proof.Machine

/-- FREEZE (R20). -/
def execFreeze (s : State) : Host.Outcome State Fault Refusal :=
  .next (s.unlessReset fun x => { x with frozen := true }.conclude .done)

/-- THAW (R21). -/
def execThaw (s : State) : Host.Outcome State Fault Refusal :=
  .next (s.unlessReset fun x => { x with frozen := false }.conclude .done)

/-- The agent a command's parameter word 0 names, when its port is not ABSENT (R133, R136). -/
def State.presentAgent (s : State) : Option AgentNo :=
  match numberOf 32 s.params[0] with
  | none => none
  | some a => if s.port a = .absent then none else some a

/-- The tests of SET_AGENT on a present agent, in their order; none when it passes them all (R133). -/
def State.setAgentRefusal (s : State) (a : AgentNo) : Option ResultCode :=
  if portFlagged s.params && (portParams s.params).isNone then some .badArgument
  else if conductFlagged s.params && (conductParams s.params).isNone then some .badArgument
  else if conductFlagged s.params && s.lock then some .locked
  else if portFlagged s.params && (portParams s.params).any fun q => decide (q.2 < s.ownedSlots a) then some .inUse
  else none

/-- The record with the port part applied, where it is flagged (R134). -/
def AgentRecord.withPortPart (r : AgentRecord) (ps : Vector Word 6) : AgentRecord :=
  if portFlagged ps then
    match portParams ps with
    | some (c, limit) => { r with arbiterClass := c, leaseLimit := limit }
    | none => r
  else r

/-- The record with the conduct part applied, where it is flagged (R134). -/
def AgentRecord.withConductPart (r : AgentRecord) (ps : Vector Word 6) : AgentRecord :=
  if conductFlagged ps then
    match conductParams ps with
    | some (o, a, t) => r.withSettings o a t
    | none => r
  else r

/-- SET_AGENT applied: both parts written, the standing derived again, and one grant pass when the limit rose or an entry was
readied (R134). -/
def State.applySetAgent (s : State) (a : AgentNo) : State :=
  let r := ((s.agent a).withPortPart s.params).withConductPart s.params
  let s' := s.updateConduct a r
  if (s.agent a).leaseLimit < r.leaseLimit then s'.grantPass else s.passIfReadied s'

/-- The results of SET_AGENT: the standing and the owned-slot count after the command (R134). -/
def State.setAgentDone (s : State) (a : AgentNo) : State :=
  s.finish .done (wordOf (s.standing a).code) (wordOf (s.ownedSlots a))

/-- SET_AGENT outside RESET (R133, R134). -/
def State.setAgentCommand (s : State) : State :=
  match s.presentAgent with
  | none => s.conclude .badArgument
  | some a =>
    match s.setAgentRefusal a with
    | some r => s.conclude r
    | none => (s.applySetAgent a).setAgentDone a

/-- SET_AGENT (R133). -/
def execSetAgent (s : State) : Host.Outcome State Fault Refusal := .next (s.unlessReset State.setAgentCommand)

/-- CLEAR_AGENT outside RESET (R136): no grant pass. -/
def State.clearAgentCommand (s : State) : State :=
  match s.presentAgent with
  | none => s.conclude .badArgument
  | some a =>
    let s' := s.updateConduct a (s.agent a).cleared
    s'.finish .done (wordOf (s'.standing a).code) 0

/-- CLEAR_AGENT (R136). -/
def execClearAgent (s : State) : Host.Outcome State Fault Refusal := .next (s.unlessReset State.clearAgentCommand)

end Sys2Proof.Machine
end

