-- ==== Sys2Proof/Machine/Interrupts.lean ====
section
/-! DEFINITION. The host's writes of the interrupt controls (R185, R186). -/

namespace Sys2Proof.Machine

/-- The source of a number, 0 to 7. -/
def State.source (s : State) (n : Fin 8) : SourceState := s.sources[n]

/-- The eight enables written from bits 7..0 (R185, 13.4). -/
def State.writeEnables (s : State) (data : Word) : State :=
  { s with sources := Vector.ofFn fun n : Fin 8 => { s.source n with enabled := data.getLsbD n.val } }

/-- ENABLE_WRITE (R185). -/
def execEnableWrite (data : Word) (s : State) : Host.Outcome State Fault Refusal :=
  .next (s.unlessReset fun x => x.writeEnables data)

/-- GLOBAL_ENABLE_WRITE (R185). -/
def execGlobalEnableWrite (on : Bool) (s : State) : Host.Outcome State Fault Refusal :=
  .next (s.unlessReset fun x => { x with globalEnable := on })

/-- ELEVATE_WRITE: a field that names no source sets NONE (R185, R189). -/
def execElevateWrite (field : BitVec 4) (s : State) : Host.Outcome State Fault Refusal :=
  .next (s.unlessReset fun x => { x with elevate := sourceOf field })

/-- The pending flags of the named sources cleared; details and enables kept (R186). -/
def State.acknowledge (s : State) (data : Word) : State :=
  { s with sources := Vector.ofFn fun n : Fin 8 =>
      { s.source n with pending := (s.source n).pending && !data.getLsbD n.val } }

/-- ACKNOWLEDGE (R186). -/
def execAcknowledge (data : Word) (s : State) : Host.Outcome State Fault Refusal :=
  .next (s.unlessReset fun x => x.acknowledge data)

end Sys2Proof.Machine
end

