-- ==== Sys2Proof/Machine/Maintenance.lean ====
section
/-! DEFINITION. Maintaining the tables by hand: FENCE_SET, FENCE_CLEAR, REVOKE, CANCEL_TICKET (R170 to R176). -/

namespace Sys2Proof.Machine

/-- Some range-holding agent lease intersects the range (R170). -/
def State.leaseOn (s : State) (r : GranuleRange) : Bool :=
  s.slots.toList.any fun x => x.state.holding?.any fun l => l.range.intersects r

/-- A handle as a result value (R189). -/
def Handle.word (h : Handle) : Word := h.bits.setWidth 32

/-- The tests and the effect of FENCE_SET over a range (R48, R170): no grant pass. -/
def State.setFence (s : State) (r : GranuleRange) : State :=
  if !r.wellFormed s.largestGranule then s.conclude .badArgument
  else if s.leaseOn r then s.conclude .inUse
  else
    match s.lowestFree with
    | none => s.conclude .tableFull
    | some k => (s.setSlotState k (.fence r)).finish .done (s.handleAt k).word 0

/-- FENCE_SET: first and last in parameter words 0 and 1 (R170, R189). -/
def execFenceSet (s : State) : Host.Outcome State Fault Refusal :=
  .next (s.unlessReset fun x => x.setFence ⟨x.params[0], x.params[1]⟩)

/-- FENCE_CLEAR of a handle (R172). -/
def State.clearFence (s : State) (h : Handle) : State :=
  match (s.slot h.slot).state with
  | .fence _ => if s.handleCurrent h then (s.freeSlot h.slot).grantPass.conclude .done else s.conclude .stale
  | _ => s.conclude .stale

/-- FENCE_CLEAR: the handle in parameter word 0 (R172, R189). -/
def execFenceClear (s : State) : Host.Outcome State Fault Refusal :=
  .next (s.unlessReset fun x => x.clearFence (handleOf x.params[0]))

/-- REVOKE of a (slot, generation) pair (R173, R174): the state found goes to word 4 and the agent to word 5. -/
def State.revokePair (s : State) (h : Handle) : State :=
  if (s.slot h.slot).generation = h.generation then
    match (s.slot h.slot).state with
    | .held l _ => (s.revokeLease h.slot l).grantPass.finish .done 2 (wordOf l.owner.val)
    | .lapsed l _ => (s.revokeLease h.slot l).grantPass.finish .done 3 (wordOf l.owner.val)
    | .reserved l c => ((s.freeSlot h.slot).cancelGrant c).grantPass.finish .done 1 (wordOf l.owner.val)
    | .fence _ => s.conclude .badArgument
    | .revoked _ _ => s.conclude .stale
    | .free => s.conclude .stale
  else s.conclude .stale

/-- REVOKE: the pair in parameter word 0 (R173, R189). -/
def execRevoke (s : State) : Host.Outcome State Fault Refusal :=
  .next (s.unlessReset fun x => x.revokePair (handleOf x.params[0]))

/-- CANCEL_TICKET of a ticket (R175). -/
def State.cancelTicket (s : State) (t : Ticket) : State :=
  if !s.ticketCurrent t then s.conclude .stale
  else
    match (s.cell t.cell).state with
    | .waiting e _ _ => (s.readyCell t.cell .cancelled).grantPass.finish .done (wordOf e.agent.val) 0
    | .granted _ _ _ => s.conclude .ignored
    | .ended _ _ _ => s.conclude .ignored
    | .empty => s.conclude .stale

/-- CANCEL_TICKET: the ticket in parameter word 0 (R175, R189). -/
def execCancelTicket (s : State) : Host.Outcome State Fault Refusal :=
  .next (s.unlessReset fun x => x.cancelTicket (ticketOf x.params[0]))

end Sys2Proof.Machine
end

