-- ==== Sys2Proof/Machine/Profiles.lean ====
section
/-! DEFINITION. LOAD_PROFILE (R178, R179), LOCK (R181), CLEAR_ALL (R182), power-on and RESET (R183). -/

namespace Sys2Proof.Machine

/-! ### LOAD_PROFILE -/

/-- Some range-holding agent lease, or some WAITING entry, is not admissible under the map (R178, test 7). -/
def State.mapConflict (s : State) (map : Vector Partition 8) : Bool :=
  (s.slots.toList.any fun x => x.state.holding?.any fun l => !admissible map l.owner l.range) ||
    s.cells.toList.any fun x => x.state.waiting?.any fun e => !admissible map e.agent e.range

/-- How many entries of a map are valid. -/
def validCount (map : Vector Partition 8) : Nat := map.toList.countP (·.valid)

/-- The seven tests of LOAD_PROFILE, in their order; none when the block passes them all (R178). -/
def State.loadRefusal (s : State) : Option ResultCode :=
  if s.lock then some .locked
  else if s.sweep.status = .inProgress then some .sweepBusy
  else if profileWord s.staging 0 ≠ 1 then some .badRevision
  else if profileSum s.staging ≠ 0 then some .badChecksum
  else if !profileFieldsInRange s.largestGranule s.staging then some .badField
  else if validCount (readProfile s.staging).map = 0 then some .notFound
  else if s.mapConflict (readProfile s.staging).map then some .mapConflict
  else none

/-- Steps 1 to 3 of the application: map, settings of all 32 records, part-wide settings (R179). -/
def State.writeProfile (s : State) (p : Profile) : State :=
  { s with
    map := p.map
    agents := s.agents.map fun r => r.withSettings p.overstay p.abandon p.trespass
    unitCode := p.unitCode
    holdPeriod := p.holdPeriod
    collectWindow := p.collectWindow
    yieldFlag := p.yieldFlag }

/-- Step 4: every agent's standing derived afresh, in ascending agent number, against the standings before the load (R179). -/
def State.deriveAll (s before : State) : State :=
  (List.finRange 32).foldl (fun x a => x.standingChanged a (before.standing a)) s

/-- Steps 1 to 5 (R179): one grant pass when some entry was readied. -/
def State.applyProfile (s : State) (p : Profile) : State := s.passIfReadied ((s.writeProfile p).deriveAll s)

/-- How many agents' standings differ between two states. -/
def standingsChanged (before after : State) : Nat :=
  (List.finRange 32).countP fun a => decide (before.standing a ≠ after.standing a)

/-- LOAD_PROFILE outside RESET (R178, R179). -/
def State.loadProfile (s : State) : State :=
  match s.loadRefusal with
  | some r => s.conclude r
  | none =>
    let p := readProfile s.staging
    let s' := s.applyProfile p
    s'.finish .done (wordOf (standingsChanged s s')) (wordOf (validCount p.map))

/-- LOAD_PROFILE (R178). -/
def execLoadProfile (s : State) : Host.Outcome State Fault Refusal := .next (s.unlessReset State.loadProfile)

/-! ### LOCK and CLEAR_ALL -/

/-- LOCK (R181). -/
def execLock (s : State) : Host.Outcome State Fault Refusal :=
  .next (s.unlessReset fun x => if x.lock then x.conclude .ignored else { x with lock := true }.conclude .done)

/-- An IN_PROGRESS sweep interrupted; the rest of the record kept (R149). -/
def SweepRecord.interruptedByClear (r : SweepRecord) : SweepRecord :=
  match r.status with
  | .inProgress => { r with status := .interrupted }
  | _ => r

/-- CLEAR_ALL (R182), before the grant pass of its last step. -/
def State.cleared (s : State) : State :=
  { (s.freeSlotsWhere fun _ => true).emptyCellsWhere fun _ => true with
    sweep := s.sweep.interruptedByClear
    agents := s.agents.map AgentRecord.cleared
    snapshot := none
    sources := s.sources.map fun x => { x with pending := false }
    frozen := false
    rotation := 0
    lowPointer := 0
    lock := false }

/-- CLEAR_ALL (R182). -/
def execClearAll (s : State) : Host.Outcome State Fault Refusal :=
  .next (s.unlessReset fun x => x.cleared.grantPass.conclude .done)

/-! ### Power-on and RESET -/

/-- Every block at its power-on values, with these straps latched and these ATTACH levels (R183). The REQ levels and the queue of
commands are the outside's and stay (log 20). Lookups not yet taken stay with the controller, which presents each by a new rise of
CK_VALID, the one it was presenting first (log 11). The output pins are not driven (log 24). -/
def State.poweredOn (s : State) (granule64 : Bool) (agentsCode : BitVec 2) (attach : Word) : State :=
  { State.reset with
    pending := s.pending
    granule64 := granule64
    agentsCode := agentsCode
    attach := attach
    req := s.req
    heldLookups := s.presented.toList ++ s.heldLookups
    map := powerOnMap granule64 }

/-- POWER_ON: power-on, or the release of RESET (R183). -/
def execPowerOn (granule64 : Bool) (agentsCode : BitVec 2) (attach : Word) (s : State) :
    Host.Outcome State Fault Refusal :=
  .next (s.poweredOn granule64 agentsCode attach)

/-- RESET_HELD: the part ends every operation and discards every queued charge (R183). What the tables hold meanwhile nothing can
show: the model holds power-on values under the straps latched last (log 12). From that moment MACK is low, MD and LB_DATA are not driven,
and the check answer stands (DESIGN CHOICE, safe, log 26), until a lookup is answered: one that stands presented is answered DENY OFFLINE in
the same step (R183; log 11). -/
def execResetHeld (s : State) : Host.Outcome State Fault Refusal :=
  .next (State.takePresented { s.poweredOn s.granule64 s.agentsCode s.attach with
    resetHeld := true, ckAnswer := s.ckAnswer, presented := s.presented, heldLookups := s.heldLookups })

end Sys2Proof.Machine
end

