-- ==== Sys2Proof/Machine/Snapshots.lean ====
section
/-! DEFINITION. The snapshot buffer: the images of 13.5, the four reading commands (R167, R168) and DROP_SNAPSHOT (R169). -/

namespace Sys2Proof.Machine

/-- One field of an image: its word and bits (13.5), and its value, absent where the record's state has no such field. -/
structure ImageField where
  word : Nat
  lo : Nat
  len : Nat
  value : Option Nat
  deriving DecidableEq, Repr

/-- The field in its place; an absent field reads 0. -/
def ImageField.placed (f : ImageField) : Word := placeField (f.value.getD 0) f.lo f.len

/-- The presence mask: bit i is set when the i-th field of the row is present, counted from 0 (13.5; log 15). -/
def presenceMask (fs : List ImageField) : Word :=
  fs.zipIdx.foldl (fun w f => if f.1.value.isSome then w ||| BitVec.twoPow 32 f.2 else w) 0

/-- Words 0 and 11 of an image: record kind in bits 31..24, number in bits 7..0 (13.5), and 0 between them (log 28). -/
def imageTag (kind number : Nat) : Word := placeField kind 24 8 ||| placeField number 0 8

/-- An image (13.5): absent fields and unused words read 0, as 13.5 says; that the bits beside the fields of a word do too is a DESIGN CHOICE,
unsafe, log 28. -/
def imageOf (kind number : Nat) (fs : List ImageField) : Vector Word 12 :=
  Vector.ofFn fun i : Fin 12 =>
    if i.val = 0 ∨ i.val = 11 then imageTag kind number
    else if i.val = 1 then presenceMask fs
    else fs.foldl (fun w f => if f.word = i.val then w ||| f.placed else w) 0

/-! ### The fields of each record -/

/-- The owner of a slot's record, where it has one (R27). -/
def SlotState.owner? : SlotState → Option Owner
  | .fence _ => some .management
  | st => st.lease?.map fun l => .agent l.owner

/-- The mode of a slot's record, where it has one (R27). -/
def SlotState.mode? : SlotState → Option ClaimMode
  | .fence _ => some .fence
  | st => st.lease?.map fun l => l.mode.claimMode

/-- The range of a slot's record, where it has one (R27). -/
def SlotState.range? : SlotState → Option GranuleRange
  | .fence r => some r
  | st => st.lease?.map (·.range)

/-- The timer of a slot's record, where it has one (R27). -/
def SlotState.remaining? : SlotState → Option Nat
  | .held _ r => some r
  | .lapsed _ r => some r
  | .revoked _ r => some r
  | _ => none

/-- The ticket link of a slot's record, where it has one (R27). -/
def SlotState.ticketLink? : SlotState → Option CellNo
  | .reserved _ c => some c
  | _ => none

/-- The fields of a lease image, in the order 13.5 names them (R168). -/
def leaseFields (x : LeaseSlot) : List ImageField :=
  let l := x.state.lease?
  [⟨2, 0, 8, some x.generation.toNat⟩, ⟨2, 8, 3, some x.state.code⟩, ⟨2, 12, 2, x.state.mode?.map ClaimMode.code⟩,
   ⟨2, 16, 6, x.state.owner?.map Owner.code⟩, ⟨3, 0, 32, x.state.range?.map (·.first.toNat)⟩,
   ⟨4, 0, 32, x.state.range?.map (·.last.toNat)⟩, ⟨5, 0, 16, l.map (·.term.toNat)⟩,
   ⟨5, 16, 16, x.state.remaining?.map shownUnits⟩, ⟨6, 0, 1, l.map fun y => boolCode y.auto⟩,
   ⟨6, 8, 8, l.map (·.allowance.toNat)⟩, ⟨6, 16, 8, l.map (·.budget.toNat)⟩,
   ⟨6, 24, 6, x.state.ticketLink?.map (·.val)⟩]

/-- The reason of a cell's entry, where it has one (R91). -/
def CellState.reason? : CellState → Option Reason
  | .waiting _ r _ => some r
  | _ => none

/-- The outcome code of a cell's entry, where it has one (R91). -/
def CellState.outcome? : CellState → Option Nat
  | .granted _ _ _ => some 0
  | .ended _ o _ => some o.code
  | _ => none

/-- The wait-left timer of a cell's entry, where it has one (R91). -/
def CellState.waitLeft? : CellState → Option Nat
  | .waiting _ _ w => w
  | _ => none

/-- The collect-left timer of a cell's entry, where it has one (R91). -/
def CellState.collectLeft? : CellState → Option Nat
  | .granted _ left _ => some left
  | .ended _ _ left => some left
  | _ => none

/-- The lease slot of a cell's entry, where it has one (R91). -/
def CellState.leaseSlot? : CellState → Option SlotNo
  | .granted _ _ k => some k
  | _ => none

/-- The fields of a wait image, in the order 13.5 names them; the position is that of an occupied cell (R168). -/
def waitFields (x : WaitCell) (position : Nat) : List ImageField :=
  let e := x.state.entry?
  [⟨2, 0, 8, some x.generation.toNat⟩, ⟨2, 8, 2, some x.state.code⟩, ⟨2, 16, 5, e.map (·.agent.val)⟩,
   ⟨2, 24, 1, e.map (·.mode.claimMode.code)⟩, ⟨2, 25, 1, e.map fun y => boolCode y.auto⟩,
   ⟨2, 26, 2, x.state.reason?.map Reason.code⟩, ⟨2, 28, 3, x.state.outcome?⟩, ⟨3, 0, 32, e.map (·.range.first.toNat)⟩,
   ⟨4, 0, 32, e.map (·.range.last.toNat)⟩, ⟨5, 0, 16, e.map (·.term.toNat)⟩, ⟨5, 16, 8, e.map (·.allowance.toNat)⟩,
   ⟨6, 0, 16, x.state.waitLeft?.map shownUnits⟩, ⟨6, 16, 8, x.state.collectLeft?.map shownUnits⟩,
   ⟨7, 0, 7, x.state.leaseSlot?.map (·.val)⟩, ⟨7, 8, 6, e.map fun _ => position⟩]

/-- The four fields of one conduct score in its image word (13.5). -/
def scoreFields (word : Nat) (x : Score) : List ImageField :=
  [⟨word, 0, 7, some x.value⟩, ⟨word, 8, 7, some x.settings.threshold⟩, ⟨word, 16, 6, some x.settings.penalty⟩,
   ⟨word, 24, 2, some x.settings.scoreClass.code⟩]

/-- The fields of an agent image, in the order 13.5 names them (R168). -/
def State.agentFields (s : State) (a : AgentNo) : List ImageField :=
  let r := s.agent a
  [⟨2, 0, 2, some (s.port a).code⟩, ⟨2, 2, 2, some r.arbiterClass.code⟩, ⟨2, 8, 5, some r.leaseLimit⟩,
   ⟨2, 16, 5, some (s.ownedSlots a)⟩, ⟨2, 24, 3, some (s.ticketCount a)⟩, ⟨2, 28, 2, some r.standing.code⟩] ++
  scoreFields 3 r.overstay ++ scoreFields 4 r.abandon ++ scoreFields 5 r.trespass ++
  [⟨6, 0, 16, some r.overstay.rawCount⟩, ⟨6, 16, 16, some r.abandon.rawCount⟩, ⟨7, 0, 16, some r.trespass.rawCount⟩]

/-- The range of a RANGE sweep (R148). -/
def SweepKind.range? : SweepKind → Option GranuleRange
  | .range r _ => some r
  | .agent _ => none

/-- The cancel-waiters flag of a RANGE sweep (R148). -/
def SweepKind.cancelWaiters? : SweepKind → Option Bool
  | .range _ c => some c
  | .agent _ => none

/-- The target of an AGENT sweep (R148). -/
def SweepKind.target? : SweepKind → Option AgentNo
  | .range _ _ => none
  | .agent a => some a

/-- The fields of a sweep image, in the order 13.5 names them (R168). -/
def sweepFields (r : SweepRecord) : List ImageField :=
  [⟨2, 0, 3, some r.status.code⟩, ⟨2, 4, 2, r.kind.map SweepKind.code⟩,
   ⟨2, 6, 1, (r.kind.bind SweepKind.cancelWaiters?).map boolCode⟩, ⟨2, 8, 5, (r.kind.bind SweepKind.target?).map (·.val)⟩,
   ⟨3, 0, 32, (r.kind.bind SweepKind.range?).map (·.first.toNat)⟩,
   ⟨4, 0, 32, (r.kind.bind SweepKind.range?).map (·.last.toNat)⟩, ⟨5, 0, 8, some r.nextSlot⟩,
   ⟨5, 8, 8, some r.revokedCount⟩, ⟨5, 16, 4, some r.tenths⟩]

/-! ### The images -/

/-- The image of a slot (13.5). -/
def State.leaseImage (s : State) (k : SlotNo) : Vector Word 12 := imageOf 1 k.val (leaseFields (s.slot k))

/-- The image of a cell (13.5). -/
def State.waitImage (s : State) (c : CellNo) : Vector Word 12 := imageOf 2 c.val (waitFields (s.cell c) (s.position c))

/-- The image of an agent record (13.5). -/
def State.agentImage (s : State) (a : AgentNo) : Vector Word 12 := imageOf 3 a.val (s.agentFields a)

/-- The image of the sweep record (13.5). -/
def State.sweepImage (s : State) : Vector Word 12 := imageOf 4 0 (sweepFields s.sweep)

/-! ### The commands -/

/-- The tests of a reading command, in their order: a number out of range, a HELD buffer, else the copy (R167). -/
def State.readRecord (s : State) (image : Option (Vector Word 12)) : State :=
  match image with
  | none => s.conclude .badArgument
  | some im =>
    match s.snapshot with
    | some _ => s.conclude .ignored
    | none => { s with snapshot := some im }.conclude .done

/-- READ_LEASE (R167). -/
def execReadLease (s : State) : Host.Outcome State Fault Refusal :=
  .next (s.unlessReset fun x => x.readRecord ((numberOf 128 x.params[0]).map x.leaseImage))

/-- READ_WAIT (R167). -/
def execReadWait (s : State) : Host.Outcome State Fault Refusal :=
  .next (s.unlessReset fun x => x.readRecord ((numberOf 64 x.params[0]).map x.waitImage))

/-- READ_AGENT (R167): an ABSENT agent's record is served too. -/
def execReadAgent (s : State) : Host.Outcome State Fault Refusal :=
  .next (s.unlessReset fun x => x.readRecord ((numberOf 32 x.params[0]).map x.agentImage))

/-- READ_SWEEP (R167). -/
def execReadSweep (s : State) : Host.Outcome State Fault Refusal :=
  .next (s.unlessReset fun x => x.readRecord (some x.sweepImage))

/-- DROP_SNAPSHOT outside RESET (R169). -/
def State.dropSnapshot (s : State) : State :=
  match s.snapshot with
  | some _ => { s with snapshot := none }.conclude .done
  | none => s.conclude .ignored

/-- DROP_SNAPSHOT (R169). -/
def execDropSnapshot (s : State) : Host.Outcome State Fault Refusal := .next (s.unlessReset State.dropSnapshot)

end Sys2Proof.Machine
end

