-- ==== Sys2Proof/Machine/Sweeps.lean ====
section
/-! DEFINITION. The Sweep Engine (chapter 8): starting, visiting, aborting. -/

namespace Sys2Proof.Machine

/-! ### START_SWEEP (R151, R152) -/

/-- The kind and fields START_SWEEP carries: kind in bits 1..0 and cancel-waiters in bit 8 of word 0, first or the target in word
1, last in word 2 (R189); none where one is out of range (R151). -/
def State.sweepParams (s : State) : Option SweepKind :=
  match fieldOf s.params[0] 0 2 with
  | 1 =>
    let r : GranuleRange := ⟨s.params[1], s.params[2]⟩
    if r.wellFormed s.largestGranule then some (.range r (s.params[0].getLsbD 8)) else none
  | 2 =>
    match numberOf 32 s.params[1] with
    | some a => if s.portCount ≤ a.val then none else some (.agent a)
    | none => none
  | _ => none

/-- Which WAITING entries the start of a sweep cancels (R152). -/
def SweepKind.cancels (k : SweepKind) (e : WaitEntry) : Bool :=
  match k with
  | .agent target => decide (e.agent = target)
  | .range r cancelWaiters => cancelWaiters && r.intersects e.range

/-- How many WAITING entries satisfy `p`. -/
def State.countWaiting (s : State) (p : WaitEntry → Bool) : Nat := s.cells.toList.countP fun x => x.state.waiting?.any p

/-- The sweep started: the record written, entries cancelled, a grant pass if some were (R152). -/
def State.beginSweep (s : State) (k : SweepKind) : State :=
  s.passIfReadied ({ s with sweep := ⟨.inProgress, some k, 0, 0, 9⟩ }.readyWhere k.cancels .cancelled)

/-- START_SWEEP outside RESET (R151, R152). -/
def State.startSweep (s : State) : State :=
  if s.sweep.status = .inProgress then s.conclude .sweepBusy
  else
    match s.sweepParams with
    | none => s.conclude .badArgument
    | some k => (s.beginSweep k).finish .done (wordOf (s.countWaiting k.cancels)) 0

/-- START_SWEEP (R152). -/
def execStartSweep (s : State) : Host.Outcome State Fault Refusal := .next (s.unlessReset State.startSweep)

/-! ### The end of a sweep -/

/-- The sweep ends with this status, its fence lifted with it, and SWEEP_DONE raised (R157, R158); the pass is the caller's. -/
def State.endSweep (s : State) (st : SweepStatus) : State :=
  { s with sweep := { s.sweep with status := st } }.raise .sweepDone st.code

/-- ABORT_SWEEP outside RESET (R158). -/
def State.abortSweep (s : State) : State :=
  if s.sweep.status = .inProgress then (s.endSweep .aborted).grantPass.conclude .done else s.conclude .noSweep

/-- ABORT_SWEEP (R158). -/
def execAbortSweep (s : State) : Host.Outcome State Fault Refusal := .next (s.unlessReset State.abortSweep)

/-! ### VISIT (R154 to R157) -/

/-- The share of the table still to be visited, in tenths (R156). -/
def tenthsAfter (next : Nat) : Nat := min 9 ((128 - next) * 10 / 128)

/-- The record after the visit of slot `next - 1`, with the leases that visit made REVOKED (R155, R156). -/
def SweepRecord.advanced (r : SweepRecord) (next revoked : Nat) : SweepRecord :=
  { r with nextSlot := next, revokedCount := r.revokedCount + revoked, tenths := tenthsAfter next }

/-- The action of a visit on its slot, before the pass (R155): the state, whether a pass is called for, and the leases made
REVOKED. -/
def State.visitAction (s : State) (k : SlotNo) : State × Bool × Nat :=
  match (s.slot k).state with
  | .held l _ => if s.sweep.matchesLease l then (s.revokeLease k l, true, 1) else (s, false, 0)
  | .lapsed l _ => if s.sweep.matchesLease l then (s.revokeLease k l, true, 1) else (s, false, 0)
  | .reserved l c => if s.sweep.matchesLease l then ((s.freeSlot k).cancelGrant c, true, 0) else (s, false, 0)
  | .revoked _ _ => (s, false, 0)
  | .free => (s, false, 0)
  | .fence _ => (s, false, 0)

/-- The visit of slot `k`: the action, the record advanced, and the one grant pass where one is called for; the visit of slot
127 completes the sweep (R155 to R157). -/
def State.visitSlot (s : State) (k : SlotNo) : State :=
  let r := s.visitAction k
  let s' := { r.1 with sweep := r.1.sweep.advanced (k.val + 1) r.2.2 }
  if k.val = 127 then (s'.endSweep .completed).grantPass
  else if r.2.1 then s'.grantPass
  else s'

/-- VISIT: the visit of the next slot of a sweep that is IN_PROGRESS; of no other sweep is a visit taken (R154). -/
def execVisit (s : State) : Host.Outcome State Fault Refusal :=
  .next
    (if s.sweep.status = .inProgress then
      (if h : s.sweep.nextSlot < 128 then s.visitSlot ⟨s.sweep.nextSlot, h⟩ else s)
    else s)

end Sys2Proof.Machine
end

