-- ==== Sys2Proof/Machine/Window.lean ====
section
/-! DEFINITION. The management window (13.4, R163, R166, R189): what each word reads, the closing read, and the writes of words. -/

namespace Sys2Proof.Machine

/-! ### Reads -/

/-- Eight yes/no values as bits 7..0 of a word, the rest 0 (log 28). -/
def bitsOf (f : Fin 8 → Bool) : Word := (List.finRange 8).foldl (fun w n => if f n then w ||| BitVec.twoPow 32 n.val else w) 0

/-- The number of a source, 15 for NONE (R189). -/
def sourceCode : Option Source → Nat
  | some x => x.number.val
  | none => 15

/-- Four detail fields, of sources `n` to `n + 3`, in one word (13.4). -/
def State.detailWord (s : State) (n : Nat) : Word :=
  (List.finRange 8).foldl
    (fun w i => if n ≤ i.val ∧ i.val < n + 4 then w ||| placeField (s.source i).detail.toNat (8 * (i.val % 4)) 8 else w) 0

/-- Window word 32 + k: profile word 2k in bits 15..0 and 2k + 1 in bits 31..16 (13.4). -/
def State.stagingWord (s : State) (k : Nat) : Word := joinHalves (profileWord s.staging (2 * k)) (profileWord s.staging (2 * k + 1))

/-- Snapshot word `n`: 0 while the buffer is EMPTY (R166). -/
def State.snapshotWord (s : State) (n : Nat) : Word :=
  match s.snapshot with
  | some im => im.toList.getD n 0
  | none => 0

/-- What a host read of window word `n` returns outside RESET (13.4, R189). The bits of a listed word that hold no field (the result word's
31..8 and those of the interrupt words 56 to 59) read 0: DESIGN CHOICE, unsafe, log 28. -/
def State.windowWord (s : State) (n : Nat) : Word :=
  if n = 0 then s.statusWord
  else if 2 ≤ n ∧ n ≤ 7 then s.params.toList.getD (n - 2) 0
  else if n = 8 then placeField s.result.code 0 8
  else if 16 ≤ n ∧ n ≤ 27 then s.snapshotWord (n - 16)
  else if 32 ≤ n ∧ n ≤ 55 then s.stagingWord (n - 32)
  else if n = 56 then bitsOf fun i => (s.source i).pending
  else if n = 57 then bitsOf fun i => (s.source i).enabled
  else if n = 58 then placeField (boolCode s.globalEnable) 0 1 ||| placeField (sourceCode s.elevate) 4 4
  else if n = 59 then placeField (sourceCode s.top) 0 4
  else if n = 61 then s.detailWord 0
  else if n = 62 then s.detailWord 4
  else 0

/-- What a host read of a window word returns; 0 while RESET is held (R183). -/
def State.windowRead (s : State) (addr : BitVec 6) : Word := if s.resetHeld then 0 else s.windowWord addr.toNat

/-- CLOSING_READ: the read of snapshot word 11 returns it and leaves the buffer EMPTY (R166). -/
def execClosingRead (s : State) : Host.Outcome State Fault Refusal :=
  .next { s with lbData := some (s.windowRead 27), snapshot := if s.resetHeld then s.snapshot else none }

/-! ### Writes -/

/-- A write of the command word: the command its code names, or BAD_ARGUMENT (R163, 13.2). -/
def writeCommandWord (code : BitVec 8) (s : State) : Host.Outcome State Fault Refusal :=
  match code.toNat with
  | 1 => execFreeze s
  | 2 => execThaw s
  | 3 => execSetAgent s
  | 4 => execClearAgent s
  | 5 => execStartSweep s
  | 6 => execAbortSweep s
  | 7 => execLoadProfile s
  | 8 => execLock s
  | 9 => execClearAll s
  | 10 => execReadLease s
  | 11 => execReadWait s
  | 12 => execReadAgent s
  | 13 => execReadSweep s
  | 14 => execDropSnapshot s
  | 15 => execFenceSet s
  | 16 => execFenceClear s
  | 17 => execRevoke s
  | 18 => execCancelTicket s
  | _ => .next (s.unlessReset fun x => x.conclude .badArgument)

/-- UNKNOWN_COMMAND: a code that names no command is refused BAD_ARGUMENT (R163; log 4). -/
def execUnknownCommand (code : BitVec 8) (s : State) : Host.Outcome State Fault Refusal := writeCommandWord code s

/-- A write of a parameter word or of two profile words stores it; of any other word it is ignored (R189). -/
def State.storeWord (s : State) (n : Nat) (data : Word) : State :=
  if 2 ≤ n ∧ n ≤ 7 then { s with params := s.params.setIfInBounds (n - 2) data }
  else if 32 ≤ n ∧ n ≤ 55 then
    let low := s.staging.setIfInBounds (2 * (n - 32)) (data.extractLsb' 0 16)
    { s with staging := low.setIfInBounds (2 * (n - 32) + 1) (data.extractLsb' 16 16) }
  else s

/-- A write of window word 58: both of its fields (13.4; log 5). -/
def State.writeControl (s : State) (data : Word) : State :=
  { s with globalEnable := data.getLsbD 0, elevate := sourceOf (data.extractLsb' 4 4) }

/-- REGISTER_WRITE (R189); a word that has a behaviour of its own has that behaviour (log 5). -/
def execRegisterWrite (addr : BitVec 6) (data : Word) (s : State) : Host.Outcome State Fault Refusal :=
  match addr.toNat with
  | 1 => writeCommandWord (data.extractLsb' 0 8) s
  | 57 => execEnableWrite data s
  | 58 => .next (s.unlessReset fun x => x.writeControl data)
  | 60 => execAcknowledge data s
  | n => .next (s.unlessReset fun x => x.storeWord n data)

end Sys2Proof.Machine
end

