-- ==== Sys2Proof/Machine/Dispatch.lean ====
section
/-! DEFINITION. One arm for each command: its effect on everything but the queue. -/

namespace Sys2Proof.Machine

/-- The command's effect: one direct call of its meaning. -/
def exec (i : Instr) (s : State) : Host.Outcome State Fault Refusal :=
  match i with
  | .acquire w1 w2 w3 => Sys2Proof.Machine.execAcquire w1 w2 w3 s
  | .renew w1 w2 w3 => Sys2Proof.Machine.execRenew w1 w2 w3 s
  | .release w1 w2 w3 => Sys2Proof.Machine.execRelease w1 w2 w3 s
  | .poll w1 w2 w3 => Sys2Proof.Machine.execPoll w1 w2 w3 s
  | .withdraw w1 w2 w3 => Sys2Proof.Machine.execWithdraw w1 w2 w3 s
  | .unknownRequest w1 w2 w3 => Sys2Proof.Machine.execUnknownRequest w1 w2 w3 s
  | .arbiterChoice req => Sys2Proof.Machine.execArbiterChoice req s
  | .tenureEnd => Sys2Proof.Machine.execTenureEnd s
  | .tenureLimitExpiry => Sys2Proof.Machine.execTenureLimitExpiry s
  | .attach a => Sys2Proof.Machine.execAttach a s
  | .detach a => Sys2Proof.Machine.execDetach a s
  | .powerOn granule64 agentsCode attach => Sys2Proof.Machine.execPowerOn granule64 agentsCode attach s
  | .termExpiry k => Sys2Proof.Machine.execTermExpiry k s
  | .holdExpiry k => Sys2Proof.Machine.execHoldExpiry k s
  | .waitLimitExpiry c => Sys2Proof.Machine.execWaitLimitExpiry c s
  | .collectionExpiry c => Sys2Proof.Machine.execCollectionExpiry c s
  | .lookup a addr kind => Sys2Proof.Machine.execLookup a addr kind s
  | .trespassCharge => Sys2Proof.Machine.execTrespassCharge s
  | .visit => Sys2Proof.Machine.execVisit s
  | .freeze => Sys2Proof.Machine.execFreeze s
  | .thaw => Sys2Proof.Machine.execThaw s
  | .setAgent => Sys2Proof.Machine.execSetAgent s
  | .clearAgent => Sys2Proof.Machine.execClearAgent s
  | .startSweep => Sys2Proof.Machine.execStartSweep s
  | .abortSweep => Sys2Proof.Machine.execAbortSweep s
  | .loadProfile => Sys2Proof.Machine.execLoadProfile s
  | .lock => Sys2Proof.Machine.execLock s
  | .clearAll => Sys2Proof.Machine.execClearAll s
  | .readLease => Sys2Proof.Machine.execReadLease s
  | .readWait => Sys2Proof.Machine.execReadWait s
  | .readAgent => Sys2Proof.Machine.execReadAgent s
  | .readSweep => Sys2Proof.Machine.execReadSweep s
  | .dropSnapshot => Sys2Proof.Machine.execDropSnapshot s
  | .fenceSet => Sys2Proof.Machine.execFenceSet s
  | .fenceClear => Sys2Proof.Machine.execFenceClear s
  | .revoke => Sys2Proof.Machine.execRevoke s
  | .cancelTicket => Sys2Proof.Machine.execCancelTicket s
  | .unknownCommand code => Sys2Proof.Machine.execUnknownCommand code s
  | .closingRead => Sys2Proof.Machine.execClosingRead s
  | .enableWrite data => Sys2Proof.Machine.execEnableWrite data s
  | .globalEnableWrite on => Sys2Proof.Machine.execGlobalEnableWrite on s
  | .elevateWrite field => Sys2Proof.Machine.execElevateWrite field s
  | .acknowledge data => Sys2Proof.Machine.execAcknowledge data s
  | .registerWrite addr data => Sys2Proof.Machine.execRegisterWrite addr data s
  | .firstRequestWord w0 => Sys2Proof.Machine.execFirstRequestWord w0 s
  | .resetHeld => Sys2Proof.Machine.execResetHeld s

end Sys2Proof.Machine
end

