-- ==== Sys2Proof/Safety.lean ====
section
/-! DEFINITION. What the laws of the part and the statements about it speak of: conditions on a state, in the spec's terms, and the
invariants every step keeps. The part stops for nothing, so a safe run is one whose every state meets `State.Lawful`. -/

namespace Sys2Proof

/-- The kind of request a request row serves; `none` inside for the unknown request (R68). -/
def Instr.requestRow : Instr → Option (Option Machine.RequestKind)
  | .acquire _ _ _ => some (some .acquire)
  | .renew _ _ _ => some (some .renew)
  | .release _ _ _ => some (some .release)
  | .poll _ _ _ => some (some .poll)
  | .withdraw _ _ _ => some (some .withdraw)
  | .unknownRequest _ _ _ => some none
  | _ => none

/-- The code by which a host command is written to the command word (13.2). -/
def Instr.commandCode : Instr → Option Nat
  | .freeze => some 1
  | .thaw => some 2
  | .setAgent => some 3
  | .clearAgent => some 4
  | .startSweep => some 5
  | .abortSweep => some 6
  | .loadProfile => some 7
  | .lock => some 8
  | .clearAll => some 9
  | .readLease => some 10
  | .readWait => some 11
  | .readAgent => some 12
  | .readSweep => some 13
  | .dropSnapshot => some 14
  | .fenceSet => some 15
  | .fenceClear => some 16
  | .revoke => some 17
  | .cancelTicket => some 18
  | _ => none

end Sys2Proof

namespace Sys2Proof.Machine

/-! ### Conditions the statements name -/

/-- The bus request of agent `a` is under way, with request word 0 received (R63). -/
abbrev State.Requesting (s : State) (a : AgentNo) (w0 : Word) (kind : Option RequestKind) : Prop :=
  s.tenure = some ⟨a, .requesting w0⟩ ∧ requestKindOf w0 = kind

/-- The state with the agent's request answered: the two answer words stand in the tenure (R63, R188). -/
def State.withAnswer (s : State) (a : AgentNo) (answer : Answer) : State :=
  { s with tenure := some ⟨a, .answered answer.word0 answer.word1⟩, mack := true }

/-- The lookup taken with this answer: CK_DONE rises with it, and a charge is sent unless it is ALLOW or DENY OFFLINE (R137, R144). -/
def State.withLookupTaken (s : State) (l : Lookup) (x : CheckAnswer) : State :=
  { s with
    presented := none
    ckAnswer := some x
    charges := if x = .allow ∨ x = .deny .offline then s.charges else s.charges ++ [l.agent] }

/-- No range-holding lease, fences included, conflicts with the claim. -/
abbrev State.NoHolderAgainst (s : State) (q : Claim) : Prop :=
  ∀ k : SlotNo, ∀ c ∈ (s.slot k).state.claim?, c.conflicts q = false

/-- No WAITING entry conflicts with the claim. -/
abbrev State.NoWaiterAgainst (s : State) (q : Claim) : Prop :=
  ∀ c : CellNo, ∀ e ∈ (s.cell c).state.waiting?, e.claim.conflicts q = false

/-- Slot `k` is the lowest-numbered FREE slot. -/
abbrev State.LowestFreeIs (s : State) (k : SlotNo) : Prop :=
  (s.slot k).state = .free ∧ ∀ j : SlotNo, j < k → (s.slot j).state ≠ .free

/-- No slot is FREE. -/
abbrev State.TableFull (s : State) : Prop := ∀ k : SlotNo, (s.slot k).state ≠ .free

/-- Cell `c` is the lowest-numbered EMPTY cell. -/
abbrev State.LowestEmptyIs (s : State) (c : CellNo) : Prop :=
  (s.cell c).state = .empty ∧ ∀ d : CellNo, d < c → (s.cell d).state ≠ .empty

/-- The fields of the ACQUIRE are in range: a known mode, a well-formed range inside the granule space, a term that is not 0
(R70). -/
abbrev State.AcquireInRange (s : State) (q : AcquireFields) (m : LeaseMode) : Prop :=
  q.mode = some m ∧ q.range.first ≤ q.range.last ∧ q.range.last ≤ s.largestGranule ∧ q.term ≠ 0

/-- Some range-holding lease or some WAITING entry conflicts with the claim: the conflict obstacle (R76). -/
abbrev State.ConflictObstacle (s : State) (q : Claim) : Prop := ¬ s.NoHolderAgainst q ∨ ¬ s.NoWaiterAgainst q

/-- A RANGE sweep is IN_PROGRESS and its range intersects this one: the sweep obstacle (R76). -/
abbrev State.SweepObstacle (s : State) (r : GranuleRange) : Prop :=
  s.sweep.status = .inProgress ∧ ∃ q c, s.sweep.kind = some (.range q c) ∧ q.intersects r = true

/-- The IN_PROGRESS sweep matches a lease of this agent and range (R150). -/
abbrev State.SweepMatches (s : State) (a : AgentNo) (r : GranuleRange) : Prop :=
  s.SweepObstacle r ∨ (s.sweep.status = .inProgress ∧ s.sweep.kind = some (.agent a))

/-- The IN_PROGRESS sweep turns the ACQUIRE of this agent and range away (R74). -/
abbrev State.SweepRefuses (s : State) (a : AgentNo) (r : GranuleRange) : Prop :=
  s.sweep.status = .inProgress ∧
    (s.sweep.kind = some (.agent a) ∨ ∃ q, s.sweep.kind = some (.range q true) ∧ q.intersects r = true)

/-- The ACQUIRE of agent `a` is taken and passes the refusals of R70 to R75. -/
abbrev State.AcquireGoesOn (s : State) (a : AgentNo) (w0 : Word) (q : AcquireFields) (m : LeaseMode) : Prop :=
  s.Requesting a w0 (some .acquire) ∧ s.AcquireInRange q m ∧ s.standing a ≠ .barred ∧ admissible s.map a q.range = true ∧
    ¬ s.SweepRefuses a q.range ∧ s.ownedSlots a < (s.agent a).leaseLimit

/-- The handle is not current (R29, R82). -/
abbrev State.HandleStale (s : State) (h : Handle) : Prop :=
  (s.slot h.slot).generation ≠ h.generation ∨ (s.slot h.slot).state = .free ∨ ∃ l c, (s.slot h.slot).state = .reserved l c

/-- The handle is current and names a fence or a lease of another agent (R82). -/
abbrev State.HandleOfOther (s : State) (a : AgentNo) (h : Handle) : Prop :=
  (∃ q, s.slot h.slot = ⟨h.generation, .fence q⟩) ∨
    ∃ l r, l.owner ≠ a ∧
      (s.slot h.slot = ⟨h.generation, .held l r⟩ ∨ s.slot h.slot = ⟨h.generation, .lapsed l r⟩ ∨
        s.slot h.slot = ⟨h.generation, .revoked l r⟩)

/-- The ticket is not current (R92, R103). -/
abbrev State.TicketStale (s : State) (t : Ticket) : Prop :=
  (s.cell t.cell).generation ≠ t.generation ∨ (s.cell t.cell).state = .empty

/-- The ticket is current and names an entry of another agent (R103). -/
abbrev State.TicketOfOther (s : State) (a : AgentNo) (t : Ticket) : Prop :=
  (s.cell t.cell).generation = t.generation ∧ ∃ e ∈ (s.cell t.cell).state.entry?, e.agent ≠ a

/-- Agent `a` has a WAITING entry. -/
abbrev State.HasWaiting (s : State) (a : AgentNo) : Prop := ∃ c, ∃ e ∈ (s.cell c).state.waiting?, e.agent = a

/-- The change from `s` to `t` took the agent into BARRED and readied an entry of its own (R130). -/
abbrev State.BarsWaiter (s t : State) (a : AgentNo) : Prop :=
  s.HasWaiting a ∧ s.standing a ≠ .barred ∧ t.standing a = .barred

/-- The conditions of R40 other than the sweep condition. -/
abbrev State.RenewsButForSweep (s : State) (l : AgentLease) : Prop :=
  l.auto = true ∧ l.budget ≠ 0 ∧ s.standing l.owner ≠ .barred ∧ (s.yieldFlag = false ∨ s.NoWaiterAgainst l.claim)

/-- Agent `a` is the HIGH contender the rotation prefers from `p` up: eligible, HIGH, at or above `p`, the lowest such. -/
abbrev State.FirstHigh (s : State) (p : Nat) (a : AgentNo) : Prop :=
  s.contends .high a = true ∧ p ≤ a.val ∧ ∀ b : AgentNo, p ≤ b.val → b < a → s.contends .high b = false

/-- Agent `a` is the LOW agent the LOW rotation prefers with LOW pointer `q` (R60). -/
abbrev State.FirstLow (s : State) (q : Nat) (a : AgentNo) : Prop :=
  s.contends .low a = true ∧
    ((q ≤ a.val ∧ ∀ b : AgentNo, q ≤ b.val → b < a → s.contends .low b = false) ∨
      (a.val < q ∧ (∀ b : AgentNo, q ≤ b.val → s.contends .low b = false) ∧
        ∀ b : AgentNo, b < a → s.contends .low b = false))

/-- Agent `a` is the arbiter's choice (R60). -/
abbrev State.ChosenHigh (s : State) (a : AgentNo) : Prop :=
  s.FirstHigh s.rotation.val a ∨
    ((∀ b : AgentNo, s.rotation.val ≤ b.val → s.contends .high b = false) ∧ (∀ b : AgentNo, s.contends .low b = false) ∧
      s.FirstHigh 0 a)

/-- The LOW position wins and agent `a` is its choice (R60). -/
abbrev State.ChosenLow (s : State) (a : AgentNo) : Prop :=
  (∀ b : AgentNo, s.rotation.val ≤ b.val → s.contends .high b = false) ∧ s.FirstLow s.lowPointer.val a

/-- Granule `g` lies in a fence (R139, row 3). -/
abbrev State.FenceOn (s : State) (g : Word) : Prop := ∃ k r, (s.slot k).state = .fence r ∧ r.covers g = true

/-- Granule `g` lies in a HELD lease of agent `a` of this mode (R139, rows 4 and 5). -/
abbrev State.HeldOn (s : State) (a : AgentNo) (m : LeaseMode) (g : Word) : Prop :=
  ∃ k l r, (s.slot k).state = .held l r ∧ l.owner = a ∧ l.mode = m ∧ l.range.covers g = true

/-- Granule `g` lies in a range-holding lease of this mode of an agent other than `a` (R139, rows 6 and 7). -/
abbrev State.OtherOn (s : State) (a : AgentNo) (m : LeaseMode) (g : Word) : Prop :=
  ∃ k l, (s.slot k).state.holding? = some l ∧ l.owner ≠ a ∧ l.mode = m ∧ l.range.covers g = true

/-- Granule `g` lies in a RESERVED or LAPSED lease of agent `a` (R139, row 8). -/
abbrev State.OwnIdleOn (s : State) (a : AgentNo) (g : Word) : Prop :=
  ∃ k l, ((∃ c, (s.slot k).state = .reserved l c) ∨ ∃ r, (s.slot k).state = .lapsed l r) ∧ l.owner = a ∧ l.range.covers g = true

/-- What the visit of slot `k` does to the tables before its record and its pass (R155): the state `u`, the leases made REVOKED, and
whether a pass is called for. -/
def State.VisitActs (s : State) (k : SlotNo) (u : State) (revoked : Nat) (pass : Bool) : Prop :=
  (∃ l r, ((s.slot k).state = .held l r ∨ (s.slot k).state = .lapsed l r) ∧ s.SweepMatches l.owner l.range ∧
      u = { s with slots := s.slots.set k ⟨(s.slot k).generation, .revoked l (s.holdPeriod.toNat * 1000)⟩ } ∧
      revoked = 1 ∧ pass = true) ∨
    (∃ l c e left, (s.slot k).state = .reserved l c ∧ (s.cell c).state = .granted e left k ∧
      s.SweepMatches l.owner l.range ∧
      u = { s with
        slots := s.slots.set k ⟨(s.slot k).generation + 1, .free⟩
        cells := s.cells.set c ⟨(s.cell c).generation, .ended e .cancelled left⟩ } ∧
      revoked = 0 ∧ pass = true) ∨
    ((∀ l, (s.slot k).state.holding? = some l → ¬ s.SweepMatches l.owner l.range) ∧ u = s ∧ revoked = 0 ∧ pass = false)

/-- The agent's standing differs between the two states, and is this one in the second. -/
abbrev State.Enters (s t : State) (a : AgentNo) (x : Standing) : Prop := s.standing a ≠ t.standing a ∧ t.standing a = x

/-- Agent `a` is the highest-numbered agent that enters this standing from `s` to `t`. -/
abbrev State.LastToEnter (s t : State) (a : AgentNo) (x : Standing) : Prop :=
  s.Enters t a x ∧ ∀ b : AgentNo, a < b → ¬ s.Enters t b x

/-- The raise of a source has set its flag and its detail (R184). -/
abbrev State.Raised (s : State) (x : Source) (detail : Nat) : Prop :=
  s.sources[x.number].pending = true ∧ s.sources[x.number].detail = BitVec.ofNat 8 detail

/-- Conditions (a) to (d) of a grant, for the entry `e` of cell `c` at the moment of its visit (R99). -/
abbrev State.GrantConditions (s : State) (c : CellNo) (e : WaitEntry) : Prop :=
  s.NoHolderAgainst e.claim ∧ (∀ d ∈ s.ahead c, ∀ o ∈ (s.cell d).state.waiting?, o.claim.conflicts e.claim = false) ∧
    ¬ s.SweepMatches e.agent e.range ∧ s.ownedSlots e.agent < (s.agent e.agent).leaseLimit

/-- The state with cell `c`'s entry granted slot `k`: the slot RESERVED with the entry's fields and linked to the cell, the entry READY
with a whole collection window (R35, R97, R100). -/
def State.withGrant (s : State) (c : CellNo) (e : WaitEntry) (k : SlotNo) : State :=
  { s with
    slots := s.slots.set k ⟨(s.slot k).generation,
      .reserved ⟨e.agent, e.mode, e.range, e.term, e.auto, e.allowance, e.allowance⟩ c⟩
    cells := s.cells.set c ⟨(s.cell c).generation, .granted e (s.collectWindow.toNat * 1000) k⟩ }

/-- A grant pass over the cells still ahead of it, from one state to another, as R99 describes it. -/
inductive State.Walks : List CellNo → State → State → Prop where
  /-- The list is at its end. -/
  | finished (s : State) : Walks [] s s
  /-- The cell holds no WAITING entry: it is passed over. -/
  | passedOver {c : CellNo} {rest : List CellNo} {s t : State} (h : (s.cell c).state.waiting? = none) (w : Walks rest s t) :
      Walks (c :: rest) s t
  /-- Before the visit no slot is FREE: the pass ends. -/
  | noSlotLeft {c : CellNo} {rest : List CellNo} {s : State} {e : WaitEntry} (h : (s.cell c).state.waiting? = some e)
      (hf : s.TableFull) : Walks (c :: rest) s s
  /-- One of the four conditions fails: the entry stays WAITING. -/
  | heldBack {c : CellNo} {rest : List CellNo} {s t : State} {e : WaitEntry} {k : SlotNo}
      (h : (s.cell c).state.waiting? = some e) (hk : s.LowestFreeIs k) (hc : ¬ s.GrantConditions c e) (w : Walks rest s t) :
      Walks (c :: rest) s t
  /-- All four hold: the entry is granted the lowest-numbered FREE slot. -/
  | granted {c : CellNo} {rest : List CellNo} {s t : State} {e : WaitEntry} {k : SlotNo}
      (h : (s.cell c).state.waiting? = some e) (hk : s.LowestFreeIs k) (hc : s.GrantConditions c e)
      (w : Walks rest (s.withGrant c e k) t) : Walks (c :: rest) s t

/-! ### The laws of the part, as invariants -/

/-- No two range-holding leases conflict (R15). -/
def State.NoTwoHoldersConflict (s : State) : Prop :=
  ∀ (j k : SlotNo) (c d : Claim), (s.slot j).state.claim? = some c → (s.slot k).state.claim? = some d → c.conflicts d = false

/-- RESERVED slots and READY entries with outcome GRANTED are paired one to one, each pair with the same agent, mode and range
(R35). -/
def State.GrantsPaired (s : State) : Prop :=
  (∀ (k : SlotNo) (l : AgentLease) (c : CellNo), (s.slot k).state = .reserved l c →
    ∃ (e : WaitEntry) (left : Nat), (s.cell c).state = .granted e left k ∧ l = e.lease) ∧
  ∀ (c : CellNo) (e : WaitEntry) (left : Nat) (k : SlotNo), (s.cell c).state = .granted e left k →
    (s.slot k).state = .reserved e.lease c

/-- The list holds every occupied cell once and no other (R89). -/
def State.ListSound (s : State) : Prop := s.order.Nodup ∧ ∀ c : CellNo, c ∈ s.order ↔ (s.cell c).state ≠ .empty

/-- Every agent owns at most its lease limit of non-FREE slots (R123) and at most 4 wait entries (R93). -/
def State.WithinLimits (s : State) : Prop :=
  ∀ a : AgentNo, s.ownedSlots a ≤ (s.agent a).leaseLimit ∧ s.ticketCount a ≤ 4

/-- Every HELD agent lease has remaining at most its term and budget left at most its allowance (R39). -/
def State.HeldWithinBounds (s : State) : Prop :=
  ∀ (k : SlotNo) (l : AgentLease) (r : Nat), (s.slot k).state = .held l r →
    r ≤ l.term.toNat * 1000 ∧ l.budget.toNat ≤ l.allowance.toNat

/-- Every range-holding agent lease, and every WAITING entry, is admissible for its agent under the map (R10, R8). -/
def State.ClaimsAdmissible (s : State) : Prop :=
  (∀ (k : SlotNo) (l : AgentLease), (s.slot k).state.holding? = some l → admissible s.map l.owner l.range = true) ∧
  ∀ (c : CellNo) (e : WaitEntry), (s.cell c).state.waiting? = some e → admissible s.map e.agent e.range = true

/-- While a sweep is IN_PROGRESS, every range-holding agent lease it matches lies in a slot numbered next slot or above (R159). -/
def State.SweptSlotsClear (s : State) : Prop :=
  ∀ (k : SlotNo) (l : AgentLease), (s.slot k).state.holding? = some l → s.sweep.matchesLease l = true →
    s.sweep.nextSlot ≤ k.val

/-- An agent that is BARRED holds no WAITING entries (R111). -/
def State.BarredDoNotWait (s : State) : Prop :=
  ∀ (c : CellNo) (e : WaitEntry), (s.cell c).state.waiting? = some e → s.standing e.agent ≠ .barred

/-- When a WAITING entry conflicts with a younger entry, the younger one is not READY with outcome GRANTED (R102). -/
def State.NoneOvertaken (s : State) : Prop :=
  ∀ (c d : CellNo) (o e : WaitEntry) (left : Nat) (k : SlotNo), c ∈ s.ahead d → (s.cell c).state.waiting? = some o →
    (s.cell d).state = .granted e left k → o.claim.conflicts e.claim = false

/-- A conduct score's value lies in 1..100 and its raw count in 0..65,535 (R128). -/
abbrev Score.InRange (x : Score) : Prop := 1 ≤ x.value ∧ x.value ≤ 100 ∧ x.rawCount ≤ 65535

/-- Every conduct score of every agent is in range (R128). -/
def State.ScoresInRange (s : State) : Prop :=
  ∀ a : AgentNo, (s.agent a).overstay.InRange ∧ (s.agent a).abandon.InRange ∧ (s.agent a).trespass.InRange

/-- The charge queue holds at most 8 charges, and a lookup stands presented and not taken only while it holds 8, CK_DONE being low (R126,
R188). -/
def State.ChargeQueueSound (s : State) : Prop :=
  s.charges.length ≤ 8 ∧ (s.presented ≠ none → s.charges.length = 8 ∧ s.ckAnswer = none)

/-- A conduct score's threshold lies in 0..100 and its penalty in 1..50 (R124). -/
abbrev ScoreSettings.InRange (x : ScoreSettings) : Prop := x.threshold ≤ 100 ∧ 1 ≤ x.penalty ∧ x.penalty ≤ 50

/-- The most a slot's timer may hold, in thousandths of a unit: 65,535 units in HELD, 255 in LAPSED and REVOKED (R26). -/
abbrev SlotState.timerBound : SlotState → Nat
  | .held _ _ => 65535000
  | _ => 255000

/-- The fields requests and the host set, the timers and the sweep's counts lie in the ranges the manual gives them (R4, R17, R24, R26,
R90, R118, R124, R148): timers are in thousandths of a unit. -/
def State.FieldsInRange (s : State) : Prop :=
  (1 ≤ s.holdPeriod.toNat ∧ 1 ≤ s.collectWindow.toNat) ∧ (∀ i : Fin 8, s.map[i].firstAgent ≤ s.map[i].lastAgent) ∧
  (∀ a : AgentNo, (s.agent a).leaseLimit ≤ 16 ∧ (s.agent a).overstay.settings.InRange ∧ (s.agent a).abandon.settings.InRange ∧
    (s.agent a).trespass.settings.InRange) ∧
  (∀ k : SlotNo, (∀ l ∈ (s.slot k).state.lease?, 1 ≤ l.term.toNat) ∧
    ∀ r ∈ (s.slot k).state.remaining?, r ≤ (s.slot k).state.timerBound) ∧
  (∀ c : CellNo, (∀ e ∈ (s.cell c).state.entry?, 1 ≤ e.term.toNat) ∧ (∀ r ∈ (s.cell c).state.waitLeft?, r ≤ 65534000) ∧
    ∀ r ∈ (s.cell c).state.collectLeft?, r ≤ 255000) ∧
  s.sweep.revokedCount ≤ s.sweep.nextSlot ∧ s.sweep.nextSlot ≤ 128 ∧ s.sweep.tenths ≤ 9

/-- The range is well formed: first ≤ last ≤ largest granule number (R3). -/
abbrev State.WellFormedRange (s : State) (r : GranuleRange) : Prop := r.first ≤ r.last ∧ r.last ≤ s.largestGranule

/-- Every range held in a table is well formed: leases and fences, wait entries, partitions, the sweep record and with it the sweep fence
(R3). -/
def State.RangesWellFormed (s : State) : Prop :=
  (∀ k : SlotNo, ∀ r ∈ (s.slot k).state.range?, s.WellFormedRange r) ∧
  (∀ c : CellNo, ∀ e ∈ (s.cell c).state.entry?, s.WellFormedRange e.range) ∧
  (∀ i : Fin 8, s.WellFormedRange s.map[i].range) ∧
  ∀ k ∈ s.sweep.kind, ∀ r ∈ k.range?, s.WellFormedRange r

/-- No two valid partitions intersect (R6). -/
def State.MapSound (s : State) : Prop :=
  ∀ i j : Fin 8, i ≠ j → s.map[i].valid = true → s.map[j].valid = true → s.map[i].range.intersects s.map[j].range = false

/-- While RESET is held there is no tenure, no sweep, no lease, no entry, no charge, no image and no lookup
presented, and the global enable is off (R183; the tables by log 12). -/
def State.QuietUnderReset (s : State) : Prop :=
  s.resetHeld = true →
    s.tenure = none ∧ s.sweep.status = .neverRun ∧ s.charges = [] ∧ s.presented = none ∧ s.snapshot = none ∧
      s.globalEnable = false ∧
      (∀ k : SlotNo, (s.slot k).state = .free) ∧ ∀ c : CellNo, (s.cell c).state = .empty

/-- All the laws together. -/
structure State.Lawful (s : State) : Prop where
  holders : s.NoTwoHoldersConflict
  paired : s.GrantsPaired
  list : s.ListSound
  limits : s.WithinLimits
  held : s.HeldWithinBounds
  admissible : s.ClaimsAdmissible
  sweep : s.SweptSlotsClear
  barred : s.BarredDoNotWait
  order : s.NoneOvertaken
  scores : s.ScoresInRange
  charges : s.ChargeQueueSound
  fields : s.FieldsInRange
  ranges : s.RangesWellFormed
  quiet : s.QuietUnderReset
  map : s.MapSound

end Sys2Proof.Machine
end

