-- ==== Sys2Proof/WellFormed.lean ====
section
/-! DEFINITION. Which commands are of the form their table row gives. -/

namespace Sys2Proof

/-- Codes 1 to 18 name commands; every other value is unknown (13.2). -/
def knownCommandCode (code : BitVec 8) : Bool := decide (1 ≤ code.toNat ∧ code.toNat ≤ 18)

/-- The window words whose host write has a behaviour of its own (13.4): the command word, the enables, the global enable with
ELEVATE, and the acknowledge word. -/
def hasOwnWriteBehaviour (addr : BitVec 6) : Bool :=
  addr == 1 || addr == 57 || addr == 58 || addr == 60

/-- A command is well formed when its operands are those of its row: UNKNOWN_COMMAND carries a code that names no command, and
REGISTER_WRITE a window word with no behaviour of its own. Every operand of every other row is in range by its type. -/
def Instr.wellFormed : Instr → Bool
  | .unknownCommand code => !knownCommandCode code
  | .registerWrite addr _ => !hasOwnWriteBehaviour addr
  | _ => true

end Sys2Proof
end

