-- ==== Sys2Proof/Certificates/Slice0/Obligations.lean ====
section
/-! DEFINITION. The statements about the part. -/

section Statements

open Sys2Proof Sys2Proof.Machine

/-! ### The queue, time and power -/

/-- A step runs the command at the front of the queue on the queue's rest (the model's own queue, log 20). -/
def Obligations.StepRunsFrontCommand : Prop :=
  ∀ (c : Instr) (rest : List Instr) (s : State), step { s with pending := c :: rest } = exec c { s with pending := rest }

/-- Every row answers a next state: the part has no fault and refuses no row (R68, R137, R163; a transfer that is not due, log 2, a lookup
that must wait, log 10, and a row whose event cannot occur, log 18, answer one too). That the queue is left alone is about the model's own
queue (DESIGN CHOICE, log 20). -/
def Obligations.EveryCommandAnswersNext : Prop :=
  ∀ (c : Instr) (s : State), ∃ t, exec c s = .next t ∧ t.pending = s.pending

/-- On an empty queue one microsecond passes: DESIGN CHOICE, log 7 and 8; the units are R16's, the freezing R20's and R22's. A lookup that
the controller holds back goes on by R188, at this moment by DESIGN CHOICE, log 10: the answer before it goes first, CK_VALID rises with it
next, and it is taken then unless 8 charges are queued. While RESET is held nothing but such a lookup moves. -/
def Obligations.IdleStepPassesOneMicrosecond : Prop :=
  ∀ s : State, s.pending = [] →
    (s.resetHeld = true →
      (s.presented ≠ none ∨ s.heldLookups = [] → step s = .next s) ∧
      (s.presented = none → s.heldLookups ≠ [] → s.ckAnswer ≠ none → step s = .next { s with ckAnswer := none }) ∧
      ∀ l more, s.presented = none → s.heldLookups = l :: more → s.ckAnswer = none →
        step s = .next { s with ckAnswer := some (.deny .offline), heldLookups := more }) ∧
    (s.resetHeld = false → ∃ t, step s = .next t ∧
      t = { s with
        slots := t.slots, cells := t.cells, tenure := t.tenure, pending := t.pending, ckAnswer := t.ckAnswer
        charges := t.charges, presented := t.presented, heldLookups := t.heldLookups } ∧
      (s.frozen = true → t.slots = s.slots ∧ t.cells = s.cells) ∧
      (s.frozen = false → ∀ d,
        (s.unitCode = 0 ∧ d = 1000 ∨ s.unitCode = 1 ∧ d = 100 ∨ s.unitCode = 2 ∧ d = 10 ∨ s.unitCode = 3 ∧ d = 1) →
        (∀ k, t.slot k = ⟨(s.slot k).generation, (s.slot k).state.elapse d⟩) ∧
        ∀ c, t.cell c = ⟨(s.cell c).generation, (s.cell c).state.elapse d⟩) ∧
      (∀ a n, s.tenure = some ⟨a, .awaitingFirst n⟩ → t.tenure = some ⟨a, .awaitingFirst (n - 1)⟩) ∧
      ((∀ a n, s.tenure ≠ some ⟨a, .awaitingFirst n⟩) → t.tenure = s.tenure) ∧
      (∀ c, c ∈ t.pending ↔
        (s.frozen = false ∧
          ((∃ k l, c = .termExpiry k ∧ (t.slot k).state = .held l 0) ∨
            (∃ k l, c = .holdExpiry k ∧ ((t.slot k).state = .lapsed l 0 ∨ (t.slot k).state = .revoked l 0)) ∨
            (∃ d e r, c = .waitLimitExpiry d ∧ (t.cell d).state = .waiting e r (some 0)) ∨
            ∃ d e, c = .collectionExpiry d ∧
              ((∃ k, (t.cell d).state = .granted e 0 k) ∨ ∃ o, (t.cell d).state = .ended e o 0))) ∨
        (c = .tenureLimitExpiry ∧ ∃ a, t.tenure = some ⟨a, .awaitingFirst 0⟩)) ∧
      (s.presented ≠ none ∨ s.heldLookups = [] →
        t.ckAnswer = s.ckAnswer ∧ t.charges = s.charges ∧ t.presented = s.presented ∧ t.heldLookups = s.heldLookups) ∧
      (s.presented = none → s.heldLookups ≠ [] → s.ckAnswer ≠ none →
        t.ckAnswer = none ∧ t.charges = s.charges ∧ t.presented = none ∧ t.heldLookups = s.heldLookups) ∧
      ∀ l more x, s.presented = none → s.heldLookups = l :: more → s.ckAnswer = none →
        x = s.decideAccess l.agent (s.granuleOf l.addr) l.kind →
        t.heldLookups = more ∧
        (s.charges.length < 8 → t.ckAnswer = some x ∧ t.presented = none ∧
          t.charges = if x = .allow ∨ x = .deny .offline then s.charges else s.charges ++ [l.agent]) ∧
        (8 ≤ s.charges.length → t.ckAnswer = none ∧ t.presented = some l ∧ t.charges = s.charges))

/-- Power-on: every block at its power-on values, under the straps latched and the lines as they stand (R183 and the rules it names). The
model's choices: MACK and CK_DONE low, MD and LB_DATA not driven (log 24), a lookup that waits is presented anew (log 11), the queue is kept
(log 20). -/
def Obligations.PowerOnGivesPowerOnValues : Prop :=
  ∀ (granule64 : Bool) (agentsCode : BitVec 2) (attach : Word) (s : State), ∃ t,
    exec (.powerOn granule64 agentsCode attach) s = .next t ∧
    t.resetHeld = false ∧ t.granule64 = granule64 ∧ t.agentsCode = agentsCode ∧ t.attach = attach ∧
    (∀ e : Fin 8, t.map[e] =
      if e = 0 then ⟨true, ⟨0, if granule64 then 0x00FFFFFF else 0x0FFFFFFF⟩, 0, 31, .openAccess⟩
      else ⟨false, ⟨0, 0⟩, 0, 0, .closed⟩) ∧
    t.unitCode = 2 ∧ t.frozen = false ∧ t.holdPeriod = 16 ∧ t.collectWindow = 32 ∧ t.yieldFlag = false ∧
    (∀ k, t.slot k = ⟨0, .free⟩) ∧ (∀ c, t.cell c = ⟨0, .empty⟩) ∧ t.order = [] ∧
    (∀ a, t.agent a = ⟨.low, 8, ⟨100, 0, ⟨40, 10, .barring⟩⟩, ⟨100, 0, ⟨40, 10, .advisory⟩⟩, ⟨100, 0, ⟨40, 2, .advisory⟩⟩⟩ ∧
      t.standing a = .good) ∧
    t.charges = [] ∧ t.presented = none ∧ t.heldLookups = s.presented.toList ++ s.heldLookups ∧ t.mack = false ∧
    t.md = none ∧ t.lbData = none ∧
    t.ckAnswer = none ∧ t.rotation = 0 ∧ t.lowPointer = 0 ∧ t.tenure = none ∧
    t.sweep = ⟨.neverRun, none, 0, 0, 0⟩ ∧ (∀ i : Fin 6, t.params[i] = 0) ∧ t.result = .done ∧ t.snapshot = none ∧
    (∀ i : Fin 48, t.staging[i] = 0) ∧ t.lock = false ∧ (∀ n : Fin 8, t.sources[n] = ⟨false, 0, false⟩) ∧
    t.globalEnable = false ∧ t.elevate = none ∧ t.top = none ∧ t.intLine = false ∧ t.gnt = 0 ∧
    t.pending = s.pending ∧ t.req = s.req

/-- RESET held: every operation ends and every charge is discarded; while it is held no request, transfer, command, choice or window write
has an effect, window reads return 0 and every lookup is answered DENY OFFLINE, one at a time (R183). The model's choices: what the tables
hold (log 12), so that every expiry, visit and charge finds nothing to act on (log 18); which lines move (log 17); MACK, MD, LB_DATA and the
check answer (log 26); a waiting lookup (log 11); INT by R185 on those tables (log 13). -/
def Obligations.ResetSilencesThePart : Prop :=
  (∀ s : State, ∃ t, exec .resetHeld s = .next t ∧ t.resetHeld = true ∧ t.tenure = none ∧ t.gnt = 0 ∧ (∀ n, t.windowRead n = 0) ∧
    t.charges = [] ∧ t.sweep.status ≠ .inProgress ∧ t.pending = s.pending ∧ t.attach = s.attach ∧
    t.req = s.req ∧ t.granule64 = s.granule64 ∧ t.agentsCode = s.agentsCode ∧ t.intLine = false ∧ t.mack = false ∧ t.md = none ∧
    t.lbData = none ∧ t.presented = none ∧ t.heldLookups = s.heldLookups ∧ (s.presented = none → t.ckAnswer = s.ckAnswer) ∧
    (s.presented ≠ none → t.ckAnswer = some (.deny .offline))) ∧
  (∀ s : State, s.resetHeld = true →
    (∀ c : Instr, c.commandCode.isSome = true → exec c s = .next s) ∧ (∀ code, exec (.unknownCommand code) s = .next s) ∧
    (∀ d, exec (.enableWrite d) s = .next s) ∧ (∀ b, exec (.globalEnableWrite b) s = .next s) ∧
    (∀ f, exec (.elevateWrite f) s = .next s) ∧ (∀ d, exec (.acknowledge d) s = .next s) ∧
    (∀ n d, exec (.registerWrite n d) s = .next s) ∧ exec .closingRead s = .next { s with lbData := some 0 } ∧
    (∀ n, s.windowRead n = 0) ∧ (∀ req, exec (.arbiterChoice req) s = .next { s with req := req }) ∧
    (∀ a, ∃ t, exec (.attach a) s = .next t ∧ t = { s with attach := t.attach }) ∧
    (∀ a, ∃ t, exec (.detach a) s = .next t ∧ t = { s with attach := t.attach }) ∧
    ∀ a addr kind,
      (s.presented ≠ none → exec (.lookup a addr kind) s = .next { s with heldLookups := s.heldLookups ++ [⟨a, addr, kind⟩] }) ∧
      (s.presented = none → s.heldLookups = [] →
        exec (.lookup a addr kind) s = .next { s with ckAnswer := some (.deny .offline) }) ∧
      ∀ l more, s.presented = none → s.heldLookups = l :: more →
        exec (.lookup a addr kind) s = .next
          { s with ckAnswer := some (.deny .offline), heldLookups := more ++ [⟨a, addr, kind⟩] }) ∧
  ∀ s : State, s.resetHeld = true → s.QuietUnderReset →
    s.gnt = 0 ∧ s.intLine = false ∧
    (∀ c k, c.requestRow = some k → exec c s = .next { s with mack := false }) ∧
    (∀ w0, exec (.firstRequestWord w0) s = .next { s with mack := false }) ∧
    exec .tenureEnd s = .next { s with mack := false } ∧ exec .tenureLimitExpiry s = .next s ∧
    (∀ k, exec (.termExpiry k) s = .next s ∧ exec (.holdExpiry k) s = .next s) ∧
    (∀ c, exec (.waitLimitExpiry c) s = .next s ∧ exec (.collectionExpiry c) s = .next s) ∧
    exec .visit s = .next s ∧ exec .trespassCharge s = .next s

/-- Port states follow the straps and the ATTACH lines; a rise of ATTACH on a DETACHED port attaches it and changes nothing else (R57,
R58, R120). -/
def Obligations.PortsFollowStrapsAndLines : Prop :=
  ∀ (s : State) (a : AgentNo),
    (s.agentsCode = 0 → (s.port a = .absent ↔ 8 ≤ a.val)) ∧ (s.agentsCode = 1 → (s.port a = .absent ↔ 16 ≤ a.val)) ∧
    (s.agentsCode = 2 ∨ s.agentsCode = 3 → s.port a ≠ .absent) ∧
    (s.port a ≠ .absent → (s.port a = .attached ↔ s.attach.getLsbD a.val = true)) ∧
    ∃ t, exec (.attach a) s = .next t ∧ t = { s with attach := t.attach } ∧
      (∀ b : AgentNo, t.attach.getLsbD b.val = (decide (b = a) || s.attach.getLsbD b.val)) ∧
      (s.port a = .detached → t.port a = .attached) ∧ ∀ b, b ≠ a → t.port b = s.port b

/-- The detach event, in its order: tenure, slots, cells, AGENT_DETACHED, one grant pass; afterwards the agent owns nothing (R50, R65,
R113, R121). A DETACH sent on a port that is not ATTACHED moves the line only (R120 for an ABSENT port; else the model's choice, log 18). -/
def Obligations.DetachFreesAndEmpties : Prop :=
  ∀ (s : State) (a : AgentNo),
    (s.port a ≠ .attached → ∃ t, exec (.detach a) s = .next t ∧ t = { s with attach := t.attach } ∧
      ∀ b : AgentNo, t.attach.getLsbD b.val = (decide (b ≠ a) && s.attach.getLsbD b.val)) ∧
    (s.resetHeld = false → s.port a = .attached → ∃ u : State, exec (.detach a) s = .next u.grantPass ∧
      u = { s with
        attach := u.attach, tenure := u.tenure, slots := u.slots, cells := u.cells,
        order := s.order.filter fun c => !(s.cell c).state.ownedBy a
        sources := (s.raise .agentDetached a.val).sources } ∧
      (∀ b : AgentNo, u.attach.getLsbD b.val = (decide (b ≠ a) && s.attach.getLsbD b.val)) ∧ u.port a = .detached ∧
      (∀ p, s.tenure = some ⟨a, p⟩ → u.tenure = none) ∧ ((∀ p, s.tenure ≠ some ⟨a, p⟩) → u.tenure = s.tenure) ∧
      (∀ k, u.slot k =
        if (s.slot k).state.ownedBy a = true then ⟨(s.slot k).generation + 1, .free⟩ else s.slot k) ∧
      (∀ c, u.cell c =
        if (s.cell c).state.ownedBy a = true then ⟨(s.cell c).generation + 1, .empty⟩ else s.cell c) ∧
      u.grantPass.ownedSlots a = 0 ∧ u.grantPass.ticketCount a = 0)

/-! ### The bus -/

/-- An arbiter choice with the bus free grants the agent the rotation prefers and moves the pointers past it; with the bus taken, or no
agent eligible, nothing is granted (R58, R60, R61, R62). -/
def Obligations.ArbiterChoosesByRotation : Prop :=
  ∀ (s : State) (req : Word), s.resetHeld = false → ∀ x : State, x = { s with req := req } →
    (∀ cl a, x.contends cl a = true ↔ x.port a = .attached ∧ req.getLsbD a.val = true ∧ (s.agent a).arbiterClass = cl) ∧
    (s.tenure = none →
      (∀ a, x.ChosenHigh a →
        exec (.arbiterChoice req) s = .next { x with tenure := some ⟨a, .awaitingFirst 2⟩, rotation := a.succ }) ∧
      (∀ a, x.ChosenLow a →
        exec (.arbiterChoice req) s = .next
          { x with
            tenure := some ⟨a, .awaitingFirst 2⟩, rotation := 0
            lowPointer := if a = 31 then 0 else a + 1 }) ∧
      ((∀ cl a, x.contends cl a = false) → exec (.arbiterChoice req) s = .next x) ∧
      ((∃ cl a, x.contends cl a = true) → ∃ a, x.ChosenHigh a ∨ x.ChosenLow a)) ∧
    (s.tenure ≠ none → exec (.arbiterChoice req) s = .next x)

/-- The transfers of a tenure: the one that is due is acknowledged and moves the exchange on, any other is not acknowledged and changes
nothing; the tenure limit; GNT (R58, R61, R63, R64). The model's choices: TENURE_END is both reads of the answer (log 1), a request row whose
kind is not that of the stored word 0 is not due (log 2), MACK keeps its level between transfers (log 3), and a limit row sent before the limit has run
out changes nothing (log 6). -/
def Obligations.TransfersOfATenure : Prop :=
  (∀ (s : State) (a : AgentNo),
    (∀ n w0, s.tenure = some ⟨a, .awaitingFirst n⟩ →
      exec (.firstRequestWord w0) s = .next { s with tenure := some ⟨a, .requesting w0⟩, mack := true }) ∧
    (s.tenure = some ⟨a, .awaitingFirst 0⟩ → exec .tenureLimitExpiry s = .next { s with tenure := none }) ∧
    (∀ a0 a1, s.tenure = some ⟨a, .answered a0 a1⟩ →
      exec .tenureEnd s = .next { s with tenure := none, md := some a1, mack := true }) ∧
    (∀ p, s.tenure = some ⟨a, p⟩ → ∀ b : AgentNo, s.gnt.getLsbD b.val = decide (b = a)) ∧ (s.tenure = none → s.gnt = 0)) ∧
  ∀ s : State,
    (∀ c k, c.requestRow = some k → (∀ a w0, ¬ s.Requesting a w0 k) → exec c s = .next { s with mack := false }) ∧
    (∀ w0, (∀ a n, s.tenure ≠ some ⟨a, .awaitingFirst n⟩) → exec (.firstRequestWord w0) s = .next { s with mack := false }) ∧
    ((∀ a a0 a1, s.tenure ≠ some ⟨a, .answered a0 a1⟩) → exec .tenureEnd s = .next { s with mack := false }) ∧
    ((∀ a, s.tenure ≠ some ⟨a, .awaitingFirst 0⟩) → exec .tenureLimitExpiry s = .next s)

/-- A request of an unknown kind is answered MALFORMED and changes nothing (R68, R70); the fields of requests, handles, tickets and answers
stand where 13.3 puts them (R69, R188), and their values have the codes of 13.2. -/
def Obligations.UnknownRequestAndFieldPlaces : Prop :=
  (∀ (s : State) (a : AgentNo) (w0 w1 w2 w3 : Word), s.tenure = some ⟨a, .requesting w0⟩ →
    (w0.extractLsb' 0 4).toNat ∉ [1, 2, 3, 4, 5] →
    exec (.unknownRequest w1 w2 w3) s = .next (s.withAnswer a ⟨.malformed, 0, 0⟩)) ∧
  (∀ w0 : Word,
    (requestKindOf w0 = some .acquire ↔ (w0.extractLsb' 0 4).toNat = 1) ∧ (requestKindOf w0 = some .renew ↔ (w0.extractLsb' 0 4).toNat = 2) ∧
    (requestKindOf w0 = some .release ↔ (w0.extractLsb' 0 4).toNat = 3) ∧ (requestKindOf w0 = some .poll ↔ (w0.extractLsb' 0 4).toNat = 4) ∧
    (requestKindOf w0 = some .withdraw ↔ (w0.extractLsb' 0 4).toNat = 5)) ∧
  (∀ (w0 w1 w2 w3 : Word) (q : AcquireFields), q = acquireFields w0 w1 w2 w3 →
    (q.mode = some .shared ↔ (w0.extractLsb' 4 2).toNat = 0) ∧ (q.mode = some .exclusive ↔ (w0.extractLsb' 4 2).toNat = 1) ∧
    (q.mode = none ↔ 2 ≤ (w0.extractLsb' 4 2).toNat) ∧ q.auto = w0.getLsbD 6 ∧ q.allowance = w0.extractLsb' 8 8 ∧
    q.range = ⟨w1, w2⟩ ∧ q.term = w3.extractLsb' 0 16 ∧ q.waitLimit = w3.extractLsb' 16 16) ∧
  (∀ w : Word,
    (handleOf w).slot.val = (w.extractLsb' 0 7).toNat ∧ (handleOf w).generation = w.extractLsb' 7 8 ∧
    (ticketOf w).cell.val = (w.extractLsb' 0 6).toNat ∧ (ticketOf w).generation = w.extractLsb' 6 8) ∧
  (∀ h : Handle, h.bits.toNat = h.slot.val + h.generation.toNat * 128) ∧
  (∀ t : Ticket, t.bits.toNat = t.cell.val + t.generation.toNat * 64) ∧
  (∀ x : Answer, x.word0.extractLsb' 0 8 = BitVec.ofNat 8 x.code.code ∧ x.word0.extractLsb' 8 16 = x.name ∧
    x.word0.extractLsb' 24 8 = 0 ∧ x.word1 = x.value) ∧
  List.map AnswerCode.code [.granted, .deferred, .renewed, .released, .waiting, .withdrawn, .malformed, .barred, .bounds, .sweeping, .limit,
    .conflict, .full, .tickets, .waitFull, .stale, .notOwner, .late, .revoked, .exhausted, .yield, .timedOut, .cancelled] = List.range 23 ∧
  List.map ResultCode.code [.done, .ignored, .locked, .inUse, .tableFull, .stale, .notFound, .badArgument, .sweepBusy, .noSweep,
    .badRevision, .badChecksum, .badField, .mapConflict] = List.range 14 ∧
  List.map PortState.code [.absent, .detached, .attached] = [0, 1, 2] ∧ List.map ArbiterClass.code [.low, .high] = [1, 2] ∧
  List.map Standing.code [.good, .advised, .barred] = [0, 1, 2] ∧ List.map ScoreClass.code [.advisory, .barring] = [1, 2] ∧
  List.map SweepStatus.code [.neverRun, .inProgress, .completed, .aborted, .interrupted] = [0, 1, 2, 3, 4] ∧
  List.map (fun x => x.number.val)
    [Source.agentBarred, .leaseLapsed, .ticketAbandoned, .agentAdvised, .tableFull, .waitFull, .sweepDone, .agentDetached] = List.range 8 ∧
  List.map DenyReason.code [.offline, .outside, .fence, .sharedOnly, .heldByOther, .notHeld, .policy] = List.range 7

/-- An answer formed stands unchanged until it is read, whatever is taken meanwhile, CLEAR_ALL included (R67, R188); the agent's detach
(R65) and power-on discard it. -/
def Obligations.AnswersStandUntilRead : Prop :=
  ∀ (c : Instr) (s t : State) (a : AgentNo) (a0 a1 : Word), s.tenure = some ⟨a, .answered a0 a1⟩ → exec c s = .next t →
    c ≠ .tenureEnd → c ≠ .detach a → c ≠ .resetHeld → (∀ g n l, c ≠ .powerOn g n l) → t.tenure = s.tenure

/-! ### ACQUIRE -/

/-- The refusals of an ACQUIRE before the immediate-grant test, in their order (R70 to R75): nothing changes but the answer. -/
def Obligations.AcquireRefusals : Prop :=
  ∀ (s : State) (a : AgentNo) (w0 w1 w2 w3 : Word) (q : AcquireFields), q = acquireFields w0 w1 w2 w3 →
    s.Requesting a w0 (some .acquire) →
    ((∀ m, ¬ s.AcquireInRange q m) → exec (.acquire w1 w2 w3) s = .next (s.withAnswer a ⟨.malformed, 0, 0⟩)) ∧
    ∀ m, s.AcquireInRange q m →
      (s.standing a = .barred → exec (.acquire w1 w2 w3) s = .next (s.withAnswer a ⟨.barred, 0, 0⟩)) ∧
      (s.standing a ≠ .barred → admissible s.map a q.range = false →
        exec (.acquire w1 w2 w3) s = .next (s.withAnswer a ⟨.bounds, 0, 0⟩)) ∧
      (s.standing a ≠ .barred → admissible s.map a q.range = true → s.SweepRefuses a q.range →
        exec (.acquire w1 w2 w3) s = .next (s.withAnswer a ⟨.sweeping, 0, 0⟩)) ∧
      (s.standing a ≠ .barred → admissible s.map a q.range = true → ¬ s.SweepRefuses a q.range →
        (s.agent a).leaseLimit ≤ s.ownedSlots a → exec (.acquire w1 w2 w3) s = .next (s.withAnswer a ⟨.limit, 0, 0⟩))

/-- An ACQUIRE with no obstacle gets a HELD lease, with its whole term and budget, in the lowest FREE slot, and is answered GRANTED
(R31, R34, R76, R77). -/
def Obligations.AcquireGrantedAtOnce : Prop :=
  ∀ (s : State) (a : AgentNo) (w0 w1 w2 w3 : Word) (q : AcquireFields) (m : LeaseMode) (k : SlotNo),
    q = acquireFields w0 w1 w2 w3 → s.AcquireGoesOn a w0 q m → ¬ s.ConflictObstacle ⟨.agent a, m.claimMode, q.range⟩ →
    ¬ s.SweepObstacle q.range → s.LowestFreeIs k →
    exec (.acquire w1 w2 w3) s = .next
      (State.withAnswer
        { s with
          slots := s.slots.set k ⟨(s.slot k).generation,
            .held ⟨a, m, q.range, q.term, q.auto, q.allowance, q.allowance⟩ (q.term.toNat * 1000)⟩ }
        a ⟨.granted, (Handle.mk k (s.slot k).generation).bits, q.term.setWidth 32⟩)

/-- An ACQUIRE that meets an obstacle and does not wait, or may not: CONFLICT, FULL with its event, TICKETS, WAIT_FULL with its event
(R78, R79, R80). -/
def Obligations.AcquireTurnedAway : Prop :=
  ∀ (s : State) (a : AgentNo) (w0 w1 w2 w3 : Word) (q : AcquireFields) (m : LeaseMode) (g : Claim),
    q = acquireFields w0 w1 w2 w3 → g = ⟨.agent a, m.claimMode, q.range⟩ → s.AcquireGoesOn a w0 q m →
    (q.waitLimit = 0 → s.ConflictObstacle g ∨ s.SweepObstacle q.range →
      exec (.acquire w1 w2 w3) s = .next (s.withAnswer a ⟨.conflict, 0, 0⟩)) ∧
    (q.waitLimit = 0 → ¬ s.ConflictObstacle g → ¬ s.SweepObstacle q.range → s.TableFull →
      exec (.acquire w1 w2 w3) s = .next ((s.raise .tableFull a.val).withAnswer a ⟨.full, 0, 0⟩)) ∧
    (q.waitLimit ≠ 0 → s.ConflictObstacle g ∨ s.SweepObstacle q.range ∨ s.TableFull → 4 ≤ s.ticketCount a →
      exec (.acquire w1 w2 w3) s = .next (s.withAnswer a ⟨.tickets, 0, 0⟩)) ∧
    (q.waitLimit ≠ 0 → s.ConflictObstacle g ∨ s.SweepObstacle q.range ∨ s.TableFull → s.ticketCount a < 4 →
      (∀ c, (s.cell c).state ≠ .empty) →
      exec (.acquire w1 w2 w3) s = .next ((s.raise .waitFull a.val).withAnswer a ⟨.waitFull, 0, 0⟩))

/-- A deferral: the entry in the lowest EMPTY cell and at the tail of the list, its reason the first that applies, its wait left, its
ticket and its position; NO_SLOT raises TABLE_FULL (R81, R92, R94, R95). -/
def Obligations.AcquireDeferred : Prop :=
  ∀ (s : State) (a : AgentNo) (w0 w1 w2 w3 : Word) (q : AcquireFields) (m : LeaseMode) (g : Claim) (c : CellNo)
    (left : Option Nat) (r : Reason) (u : State),
    q = acquireFields w0 w1 w2 w3 → g = ⟨.agent a, m.claimMode, q.range⟩ → s.AcquireGoesOn a w0 q m → q.waitLimit ≠ 0 →
    s.ticketCount a < 4 → s.LowestEmptyIs c →
    (q.waitLimit = 65535 ∧ left = none ∨ q.waitLimit ≠ 65535 ∧ left = some (q.waitLimit.toNat * 1000)) →
    (s.ConflictObstacle g ∧ r = .conflict ∨ ¬ s.ConflictObstacle g ∧ s.SweepObstacle q.range ∧ r = .sweep ∨
      ¬ s.ConflictObstacle g ∧ ¬ s.SweepObstacle q.range ∧ s.TableFull ∧ r = .noSlot) →
    u = { s with
      cells := s.cells.set c ⟨(s.cell c).generation, .waiting ⟨a, m, q.range, q.term, q.auto, q.allowance⟩ r left⟩
      order := s.order ++ [c] } →
    exec (.acquire w1 w2 w3) s = .next
      ((if r = .noSlot then u.raise .tableFull a.val else u).withAnswer a
        ⟨.deferred, (Ticket.mk c (s.cell c).generation).bits, BitVec.ofNat 32 s.order.length⟩)

/-! ### RENEW, RELEASE, POLL, WITHDRAW -/

/-- The refusals of a RENEW, in their order: nothing changes but the answer, which names the handle (R69, R82, R83, R84). -/
def Obligations.RenewRefusals : Prop :=
  ∀ (s : State) (a : AgentNo) (w0 w1 w2 w3 : Word) (h : Handle), h = handleOf w1 → s.Requesting a w0 (some .renew) →
    (s.HandleStale h → exec (.renew w1 w2 w3) s = .next (s.withAnswer a ⟨.stale, h.bits, 0⟩)) ∧
    (s.HandleOfOther a h → exec (.renew w1 w2 w3) s = .next (s.withAnswer a ⟨.notOwner, h.bits, 0⟩)) ∧
    ∀ l r, l.owner = a →
      (s.slot h.slot = ⟨h.generation, .lapsed l r⟩ →
        exec (.renew w1 w2 w3) s = .next (s.withAnswer a ⟨.late, h.bits, 0⟩)) ∧
      (s.slot h.slot = ⟨h.generation, .revoked l r⟩ →
        exec (.renew w1 w2 w3) s = .next (s.withAnswer a ⟨.revoked, h.bits, 0⟩)) ∧
      (s.slot h.slot = ⟨h.generation, .held l r⟩ →
        (s.standing a = .barred → exec (.renew w1 w2 w3) s = .next (s.withAnswer a ⟨.barred, h.bits, 0⟩)) ∧
        (s.standing a ≠ .barred → s.SweepMatches a l.range →
          exec (.renew w1 w2 w3) s = .next (s.withAnswer a ⟨.sweeping, h.bits, 0⟩)) ∧
        (s.standing a ≠ .barred → ¬ s.SweepMatches a l.range → l.budget = 0 →
          exec (.renew w1 w2 w3) s = .next (s.withAnswer a ⟨.exhausted, h.bits, 0⟩)) ∧
        (s.standing a ≠ .barred → ¬ s.SweepMatches a l.range → l.budget ≠ 0 → s.yieldFlag = true →
          ¬ s.NoWaiterAgainst l.claim → exec (.renew w1 w2 w3) s = .next (s.withAnswer a ⟨.yield, h.bits, 0⟩)))

/-- A RENEW that passes every test restarts the timer with the (possibly new) term, spends one unit of budget, keeps the rest of the
record, and is answered RENEWED with the term (R38, R85). -/
def Obligations.RenewRestartsTheTerm : Prop :=
  ∀ (s : State) (a : AgentNo) (w0 w1 w2 w3 : Word) (h : Handle) (l : AgentLease) (r : Nat) (term : BitVec 16),
    h = handleOf w1 → s.Requesting a w0 (some .renew) → s.slot h.slot = ⟨h.generation, .held l r⟩ → l.owner = a →
    s.standing a ≠ .barred → ¬ s.SweepMatches a l.range → l.budget ≠ 0 →
    (s.yieldFlag = false ∨ s.NoWaiterAgainst l.claim) →
    term = (if w3.extractLsb' 0 16 = 0 then l.term else w3.extractLsb' 0 16) →
    exec (.renew w1 w2 w3) s = .next
      (State.withAnswer
        { s with
          slots := s.slots.set h.slot
            ⟨h.generation, .held { l with term := term, budget := l.budget - 1 } (term.toNat * 1000)⟩ }
        a ⟨.renewed, h.bits, term.setWidth 32⟩)

/-- A RELEASE: its refusals; else the slot takes the freeing step, a HELD lease's owner is credited, and one grant pass follows; the
answer by the state found (R32, R47, R86). -/
def Obligations.ReleaseFreesTheSlot : Prop :=
  ∀ (s : State) (a : AgentNo) (w0 w1 w2 w3 : Word) (h : Handle) (u : State), h = handleOf w1 →
    s.Requesting a w0 (some .release) → u = { s with slots := s.slots.set h.slot ⟨h.generation + 1, .free⟩ } →
    (s.HandleStale h → exec (.release w1 w2 w3) s = .next (s.withAnswer a ⟨.stale, h.bits, 0⟩)) ∧
    (s.HandleOfOther a h → exec (.release w1 w2 w3) s = .next (s.withAnswer a ⟨.notOwner, h.bits, 0⟩)) ∧
    ∀ l r, l.owner = a →
      (s.slot h.slot = ⟨h.generation, .held l r⟩ →
        exec (.release w1 w2 w3) s = .next ((u.credit a).grantPass.withAnswer a ⟨.released, h.bits, 0⟩)) ∧
      (s.slot h.slot = ⟨h.generation, .lapsed l r⟩ →
        exec (.release w1 w2 w3) s = .next (u.grantPass.withAnswer a ⟨.late, h.bits, 0⟩)) ∧
      (s.slot h.slot = ⟨h.generation, .revoked l r⟩ →
        exec (.release w1 w2 w3) s = .next (u.grantPass.withAnswer a ⟨.revoked, h.bits, 0⟩))

/-- A POLL: its refusals; the position of a WAITING entry; the collection of a grant; the outcome of a finished entry, whose cell is
emptied (R36, R103, R104, R105, R106, R108). -/
def Obligations.PollReportsAndCollects : Prop :=
  ∀ (s : State) (a : AgentNo) (w0 w1 w2 w3 : Word) (t : Ticket) (u : State), t = ticketOf w1 →
    s.Requesting a w0 (some .poll) →
    u = { s with
      cells := s.cells.set t.cell ⟨t.generation + 1, .empty⟩
      order := s.order.filter (· != t.cell) } →
    (s.TicketStale t → exec (.poll w1 w2 w3) s = .next (s.withAnswer a ⟨.stale, t.bits, 0⟩)) ∧
    (s.TicketOfOther a t → exec (.poll w1 w2 w3) s = .next (s.withAnswer a ⟨.notOwner, t.bits, 0⟩)) ∧
    ∀ e, e.agent = a →
      (∀ r left, s.cell t.cell = ⟨t.generation, .waiting e r left⟩ →
        exec (.poll w1 w2 w3) s = .next
          (s.withAnswer a ⟨.waiting, t.bits, BitVec.ofNat 32 (s.order.takeWhile (· != t.cell)).length⟩)) ∧
      (∀ left k l, s.cell t.cell = ⟨t.generation, .granted e left k⟩ → (s.slot k).state = .reserved l t.cell →
        exec (.poll w1 w2 w3) s = .next
          (State.withAnswer
            { u with
              slots := s.slots.set k ⟨(s.slot k).generation, .held { l with budget := l.allowance } (l.term.toNat * 1000)⟩ }
            a ⟨.granted, (Handle.mk k (s.slot k).generation).bits, e.term.setWidth 32⟩)) ∧
      (∀ left, s.cell t.cell = ⟨t.generation, .ended e .timedOut left⟩ →
        exec (.poll w1 w2 w3) s = .next (u.withAnswer a ⟨.timedOut, t.bits, 0⟩)) ∧
      (∀ left, s.cell t.cell = ⟨t.generation, .ended e .cancelled left⟩ →
        exec (.poll w1 w2 w3) s = .next (u.withAnswer a ⟨.cancelled, t.bits, 0⟩)) ∧
      (∀ left, s.cell t.cell = ⟨t.generation, .ended e .barred left⟩ →
        exec (.poll w1 w2 w3) s = .next (u.withAnswer a ⟨.barred, t.bits, 0⟩))

/-- A WITHDRAW: its refusals; else WITHDRAWN, the cell emptied, a granted entry's slot freed, and a grant pass unless the entry was READY
without a grant (R103, R107). -/
def Obligations.WithdrawEmptiesTheCell : Prop :=
  ∀ (s : State) (a : AgentNo) (w0 w1 w2 w3 : Word) (t : Ticket) (u : State), t = ticketOf w1 →
    s.Requesting a w0 (some .withdraw) →
    u = { s with
      cells := s.cells.set t.cell ⟨t.generation + 1, .empty⟩
      order := s.order.filter (· != t.cell) } →
    (s.TicketStale t → exec (.withdraw w1 w2 w3) s = .next (s.withAnswer a ⟨.stale, t.bits, 0⟩)) ∧
    (s.TicketOfOther a t → exec (.withdraw w1 w2 w3) s = .next (s.withAnswer a ⟨.notOwner, t.bits, 0⟩)) ∧
    ∀ e, e.agent = a →
      (∀ r left, s.cell t.cell = ⟨t.generation, .waiting e r left⟩ →
        exec (.withdraw w1 w2 w3) s = .next (u.grantPass.withAnswer a ⟨.withdrawn, t.bits, 0⟩)) ∧
      (∀ left k l, s.cell t.cell = ⟨t.generation, .granted e left k⟩ → (s.slot k).state = .reserved l t.cell →
        exec (.withdraw w1 w2 w3) s = .next
          ((State.grantPass { u with slots := s.slots.set k ⟨(s.slot k).generation + 1, .free⟩ }).withAnswer a
            ⟨.withdrawn, t.bits, 0⟩)) ∧
      (∀ o left, s.cell t.cell = ⟨t.generation, .ended e o left⟩ →
        exec (.withdraw w1 w2 w3) s = .next (u.withAnswer a ⟨.withdrawn, t.bits, 0⟩))

/-! ### Timers -/

/-- A term expiry, the term having run out, at which the five conditions hold renews the lease and does nothing else (R18, R40). -/
def Obligations.TermExpiryRenews : Prop :=
  ∀ (s : State) (k : SlotNo) (l : AgentLease), s.frozen = false → (s.slot k).state = .held l 0 →
    s.RenewsButForSweep l → ¬ s.SweepMatches l.owner l.range →
    exec (.termExpiry k) s = .next
      { s with
        slots := s.slots.set k ⟨(s.slot k).generation, .held { l with budget := l.budget - 1 } (l.term.toNat * 1000)⟩ }

/-- A lapse, the term having run out: LAPSED with a whole hold period, OVERSTAY charged unless the sweep condition alone failed,
LEASE_LAPSED raised, and a grant pass when the charge bars the agent and readies an entry (R18, R41, R42, R98). No pass where the agent bars
without a WAITING entry is the model's reading, log 16. -/
def Obligations.TermExpiryLapses : Prop :=
  ∀ (s : State) (k : SlotNo) (l : AgentLease) (u v : State), s.frozen = false → (s.slot k).state = .held l 0 →
    u = { s with slots := s.slots.set k ⟨(s.slot k).generation, .lapsed l (s.holdPeriod.toNat * 1000)⟩ } →
    v = (u.charge l.owner .overstay).raise .leaseLapsed k.val →
    (s.RenewsButForSweep l → s.SweepMatches l.owner l.range →
      exec (.termExpiry k) s = .next (u.raise .leaseLapsed k.val)) ∧
    (¬ s.RenewsButForSweep l → ¬ s.BarsWaiter v l.owner → exec (.termExpiry k) s = .next v) ∧
    (¬ s.RenewsButForSweep l → s.BarsWaiter v l.owner → exec (.termExpiry k) s = .next v.grantPass)

/-- The hold, wait-limit and collection expiries, their timers having run out (R18, R46, R109, R110), a granted entry being paired with its
slot as R35 has it (elsewhere log 25); while the timer has an amount left, or where there is no such timer, none of the four expiries
occurs, so that after a RENEW or a REVOKE has restarted the timer the old expiry is not taken (R18, R54, R55, R109; a row sent then, log 6
and 18). -/
def Obligations.OtherExpiries : Prop :=
  (∀ s : State, s.frozen = false →
    (∀ k l, (s.slot k).state = .lapsed l 0 ∨ (s.slot k).state = .revoked l 0 →
      exec (.holdExpiry k) s = .next
        (State.grantPass { s with slots := s.slots.set k ⟨(s.slot k).generation + 1, .free⟩ })) ∧
    (∀ c e r, (s.cell c).state = .waiting e r (some 0) →
      exec (.waitLimitExpiry c) s = .next
        (State.grantPass
          { s with
            cells := s.cells.set c ⟨(s.cell c).generation, .ended e .timedOut (s.collectWindow.toNat * 1000)⟩ })) ∧
    ∀ c u, u = { s with
        cells := s.cells.set c ⟨(s.cell c).generation + 1, .empty⟩
        order := s.order.filter (· != c) } →
      (∀ e k l, (s.cell c).state = .granted e 0 k → (s.slot k).state = .reserved l c →
        exec (.collectionExpiry c) s = .next
          ((State.charge { u with slots := s.slots.set k ⟨(s.slot k).generation + 1, .free⟩ } e.agent .abandon).raise
            .ticketAbandoned e.agent.val).grantPass) ∧
      ∀ e o, (s.cell c).state = .ended e o 0 → exec (.collectionExpiry c) s = .next u) ∧
  ∀ s : State,
    (∀ k, (∀ l, (s.slot k).state ≠ .held l 0) → exec (.termExpiry k) s = .next s) ∧
    (∀ k, (∀ l, (s.slot k).state ≠ .lapsed l 0 ∧ (s.slot k).state ≠ .revoked l 0) → exec (.holdExpiry k) s = .next s) ∧
    (∀ c, (∀ e r, (s.cell c).state ≠ .waiting e r (some 0)) → exec (.waitLimitExpiry c) s = .next s) ∧
    ∀ c, (∀ e k, (s.cell c).state ≠ .granted e 0 k) → (∀ e o, (s.cell c).state ≠ .ended e o 0) →
      exec (.collectionExpiry c) s = .next s

/-- FREEZE and THAW set the Timebase state and complete with DONE; in FROZEN no expiry occurs (R20, R21, R163). -/
def Obligations.FreezeStopsExpiries : Prop :=
  (∀ s : State, s.resetHeld = false →
    exec .freeze s = .next { s with frozen := true, result := .done, params := (s.params.set 4 0).set 5 0 } ∧
    exec .thaw s = .next { s with frozen := false, result := .done, params := (s.params.set 4 0).set 5 0 }) ∧
  ∀ s : State, s.frozen = true →
    (∀ k, exec (.termExpiry k) s = .next s ∧ exec (.holdExpiry k) s = .next s) ∧
    ∀ c, exec (.waitLimitExpiry c) s = .next s ∧ exec (.collectionExpiry c) s = .next s

/-! ### Conduct and standing -/

/-- What a charge and a credit do to the record, and to nothing else but through a change of standing (R125, R127). -/
def Obligations.ChargesAndCredits : Prop :=
  (∀ x : Score, x.charged.value = max 1 (x.value - x.settings.penalty) ∧ x.charged.settings = x.settings ∧
    (x.rawCount < 65535 → x.charged.rawCount = x.rawCount + 1) ∧ (x.rawCount = 65535 → x.charged.rawCount = 65535) ∧
    x.credited = { x with value := min 100 (x.value + 1) }) ∧
  ∀ (s : State) (a : AgentNo),
    (s.charge a .overstay).agent a = { s.agent a with overstay := (s.agent a).overstay.charged } ∧
    (s.charge a .abandon).agent a = { s.agent a with abandon := (s.agent a).abandon.charged } ∧
    (s.charge a .trespass).agent a = { s.agent a with trespass := (s.agent a).trespass.charged } ∧
    (s.credit a).agent a =
      { s.agent a with
        overstay := (s.agent a).overstay.credited
        abandon := (s.agent a).abandon.credited
        trespass := (s.agent a).trespass.credited } ∧
    ∀ t : State, (t = s.credit a ∨ ∃ n, t = s.charge a n) →
      t = { s with agents := t.agents, sources := t.sources, cells := t.cells } ∧
      (∀ b, b ≠ a → t.agent b = s.agent b) ∧
      (t.standing a = s.standing a → t.sources = s.sources ∧ t.cells = s.cells)

/-- Standing is derived from the three scores, penalties and raw counts taking no part (R124, R128); a change of it raises AGENT_BARRED and
readies the agent's WAITING entries, or raises AGENT_ADVISED, or does nothing (R111, R129, R130). -/
def Obligations.StandingAndItsChanges : Prop :=
  (∀ r : AgentRecord,
    (r.standing = .barred ↔
      ∃ x ∈ [r.overstay, r.abandon, r.trespass], x.settings.scoreClass = .barring ∧ x.value ≤ x.settings.threshold) ∧
    (r.standing = .advised ↔ r.standing ≠ .barred ∧
      ∃ x ∈ [r.overstay, r.abandon, r.trespass], x.settings.scoreClass = .advisory ∧ x.value ≤ x.settings.threshold)) ∧
  (∀ (s : State) (a : AgentNo), s.standing a = (s.agent a).standing) ∧
  ∀ (s : State) (a : AgentNo) (r : AgentRecord) (u : State), u = { s with agents := s.agents.set a r } →
    (r.standing = s.standing a ∨ r.standing = .good → s.updateConduct a r = u) ∧
    (r.standing ≠ s.standing a → r.standing = .advised → s.updateConduct a r = u.raise .agentAdvised a.val) ∧
    (r.standing ≠ s.standing a → r.standing = .barred →
      ∃ t, s.updateConduct a r = t ∧ t = { u.raise .agentBarred a.val with cells := t.cells } ∧
        (∀ c e x left, (s.cell c).state = .waiting e x left → e.agent = a →
          t.cell c = ⟨(s.cell c).generation, .ended e .barred (s.collectWindow.toNat * 1000)⟩) ∧
        ∀ c, (∀ e ∈ (s.cell c).state.waiting?, e.agent ≠ a) → t.cell c = s.cell c)

/-- The oldest queued charge is applied to its agent's record, with one grant pass when it readied an entry (R126, R144; no pass where it
readied none, log 16); with no charge queued there is none to take (log 18). The lookup presented, for which the queue now has room, is taken
after it (R126); that it is taken in the same step is the model's choice, log 10. -/
def Obligations.TrespassChargeTaken : Prop :=
  (∀ s : State, s.charges = [] → exec .trespassCharge s = .next s) ∧
  ∀ (s : State) (a : AgentNo) (rest : List AgentNo) (u v : State), s.resetHeld = false → s.charges = a :: rest →
    u = State.charge { s with charges := rest } a .trespass →
    (s.BarsWaiter u a ∧ v = u.grantPass ∨ ¬ s.BarsWaiter u a ∧ v = u) →
    (s.presented = none ∨ 8 ≤ rest.length → exec .trespassCharge s = .next v) ∧
    ∀ l x, s.presented = some l → rest.length < 8 → x = v.decideAccess l.agent (v.granuleOf l.addr) l.kind →
      exec .trespassCharge s = .next (v.withLookupTaken l x)

/-! ### The check port -/

/-- A lookup is taken at its rise of CK_VALID and answered at once from the tables, of which it changes none; every denial but OFFLINE sends
one charge; with 8 charges queued it stands presented with CK_DONE low (R126, R137, R144, R188). One sent before the answer to the one before
is not presented yet; that the rise after that answer comes with the oldest of those is the model's choice, log 10. -/
def Obligations.LookupsAreAnswered : Prop :=
  ∀ (s : State) (a : AgentNo) (addr : BitVec 40) (kind : AccessKind), s.resetHeld = false →
    (s.presented ≠ none → exec (.lookup a addr kind) s = .next { s with heldLookups := s.heldLookups ++ [⟨a, addr, kind⟩] }) ∧
    (s.presented = none → ∀ (l : Lookup) (more : List Lookup) (x : CheckAnswer),
      (s.heldLookups = [] ∧ l = ⟨a, addr, kind⟩ ∧ more = [] ∨
        ∃ rest, s.heldLookups = l :: rest ∧ more = rest ++ [⟨a, addr, kind⟩]) →
      x = s.decideAccess l.agent (s.granuleOf l.addr) l.kind →
      (s.charges.length < 8 → exec (.lookup a addr kind) s = .next (State.withLookupTaken { s with heldLookups := more } l x)) ∧
      (8 ≤ s.charges.length →
        exec (.lookup a addr kind) s = .next { s with presented := some l, heldLookups := more, ckAnswer := none }))

/-- The eleven rows of the decision, from the top; it reads the port state, the map and the Lease Table and nothing else (R139). The
premise is the law of R6. -/
def Obligations.LookupDecisionTable : Prop :=
  (∀ (s : State) (a : AgentNo) (g : Word) (kind : AccessKind), s.MapSound →
    (s.port a ≠ .attached → s.decideAccess a g kind = .deny .offline) ∧
    (s.port a = .attached →
      ((∀ i : Fin 8, s.map[i].admits a g = false) → s.decideAccess a g kind = .deny .outside) ∧
      ∀ i : Fin 8, s.map[i].admits a g = true →
        (s.FenceOn g → s.decideAccess a g kind = .deny .fence) ∧
        (¬ s.FenceOn g →
          (s.HeldOn a .exclusive g → s.decideAccess a g kind = .allow) ∧
          (¬ s.HeldOn a .exclusive g →
            (s.HeldOn a .shared g →
              s.decideAccess a g .read = .allow ∧ s.decideAccess a g .write = .deny .sharedOnly) ∧
            (¬ s.HeldOn a .shared g →
              (s.OtherOn a .exclusive g → s.decideAccess a g kind = .deny .heldByOther) ∧
              (¬ s.OtherOn a .exclusive g →
                (s.OtherOn a .shared g → s.decideAccess a g .write = .deny .heldByOther) ∧
                (kind = .read ∨ ¬ s.OtherOn a .shared g →
                  (s.OwnIdleOn a g → s.decideAccess a g kind = .deny .notHeld) ∧
                  (¬ s.OwnIdleOn a g →
                    (s.map[i].policy = .openAccess → s.decideAccess a g kind = .allow) ∧
                    (s.map[i].policy = .readOnly → kind = .read → s.decideAccess a g kind = .allow) ∧
                    (s.map[i].policy = .readOnly → kind = .write → s.decideAccess a g kind = .deny .policy) ∧
                    (s.map[i].policy = .closed → s.decideAccess a g kind = .deny .policy))))))))) ∧
  ∀ (s t : State) (a : AgentNo) (g : Word) (kind : AccessKind), s.port a = t.port a → s.map = t.map → s.slots = t.slots →
    s.decideAccess a g kind = t.decideAccess a g kind

/-- A WRITE is allowed only by a HELD EXCLUSIVE lease of the agent's own, or where no range-holding lease lies and an OPEN partition is
open to it; a READ only by a HELD lease of its own or where the policy of a partition open to it lets it read (R143). -/
def Obligations.WriteAllowedOnlyByRight : Prop :=
  ∀ (s : State) (a : AgentNo) (g : Word),
    (s.decideAccess a g .write = .allow →
      s.HeldOn a .exclusive g ∨
        (∀ k, ∀ c ∈ (s.slot k).state.claim?, c.range.covers g = false) ∧
          ∃ i : Fin 8, s.map[i].admits a g = true ∧ s.map[i].policy = .openAccess) ∧
    (s.decideAccess a g .read = .allow →
      s.HeldOn a .exclusive g ∨ s.HeldOn a .shared g ∨
        ∃ i : Fin 8, s.map[i].admits a g = true ∧ (s.map[i].policy = .openAccess ∨ s.map[i].policy = .readOnly))

/-- The granule of a byte address is the address divided by the granule size, never beyond the largest granule number, and the offset
takes no part in the decision (R2). -/
def Obligations.GranuleOfAddress : Prop :=
  ∀ (s : State) (addr : BitVec 40),
    (s.granule64 = false → (s.granuleOf addr).toNat = addr.toNat / 4096 ∧ (s.granuleOf addr).toNat ≤ 268435455) ∧
    (s.granule64 = true → (s.granuleOf addr).toNat = addr.toNat / 65536 ∧ (s.granuleOf addr).toNat ≤ 16777215) ∧
    ∀ (other : BitVec 40) (a : AgentNo) (kind : AccessKind),
      addr.toNat / (if s.granule64 then 65536 else 4096) = other.toNat / (if s.granule64 then 65536 else 4096) →
      s.decideAccess a (s.granuleOf addr) kind = s.decideAccess a (s.granuleOf other) kind

/-! ### Claims, admissibility and the grant pass -/

/-- Two claims conflict exactly when their ranges intersect, their owners differ, and one of them is EXCLUSIVE or FENCE; the relation is
symmetric (R12). -/
def Obligations.ConflictRelation : Prop :=
  ∀ a b : Claim,
    (a.conflicts b = true ↔
      (a.range.first.toNat ≤ b.range.last.toNat ∧ b.range.first.toNat ≤ a.range.last.toNat) ∧ a.owner ≠ b.owner ∧
        (a.mode = .exclusive ∨ a.mode = .fence ∨ b.mode = .exclusive ∨ b.mode = .fence)) ∧
    (a.conflicts b = true ↔ b.conflicts a = true) ∧
    (a.range.intersects b.range = true → a.owner ≠ b.owner →
      (a.conflicts b = false ↔ a.mode = .shared ∧ b.mode = .shared))

/-- A range is admissible for an agent exactly when both its ends lie in one valid partition open to the agent; then all of it does
(R7, R9). -/
def Obligations.AdmissibleRanges : Prop :=
  ∀ (s : State) (a : AgentNo) (r : GranuleRange),
    (admissible s.map a r = true ↔
      ∃ i : Fin 8, s.map[i].valid = true ∧ s.map[i].firstAgent ≤ a ∧ a ≤ s.map[i].lastAgent ∧
        (s.map[i].range.first ≤ r.first ∧ r.first ≤ s.map[i].range.last) ∧
        (s.map[i].range.first ≤ r.last ∧ r.last ≤ s.map[i].range.last)) ∧
    (r.first ≤ r.last → admissible s.map a r = true →
      ∃ i : Fin 8, ∀ g, r.covers g = true → s.map[i].admits a g = true)

/-- A grant pass does nothing but grant WAITING entries: each into a slot that was FREE, RESERVED with the entry's fields and linked to its
cell, the entry READY with a whole collection window (R35, R97, R100); and it is the walk of R99: head to tail, ending where no slot is FREE,
each entry granted the lowest-numbered FREE slot (R31) exactly when conditions (a) to (d) hold at its visit. -/
def Obligations.GrantPassOnlyGrants : Prop :=
  ∀ s t : State, t = s.grantPass →
    State.Walks s.order s t ∧
    t = { s with slots := t.slots, cells := t.cells } ∧
    (∀ k, t.slot k = s.slot k ∨ ∃ c e x left, (s.slot k).state = .free ∧ (s.cell c).state = .waiting e x left ∧
      t.slot k = ⟨(s.slot k).generation,
        .reserved ⟨e.agent, e.mode, e.range, e.term, e.auto, e.allowance, e.allowance⟩ c⟩ ∧
      t.cell c = ⟨(s.cell c).generation, .granted e (s.collectWindow.toNat * 1000) k⟩) ∧
    ∀ c, t.cell c = s.cell c ∨ ∃ k e x left, (s.slot k).state = .free ∧ (s.cell c).state = .waiting e x left ∧
      t.cell c = ⟨(s.cell c).generation, .granted e (s.collectWindow.toNat * 1000) k⟩ ∧
      t.slot k = ⟨(s.slot k).generation,
        .reserved ⟨e.agent, e.mode, e.range, e.term, e.auto, e.allowance, e.allowance⟩ c⟩

/-- After a grant pass over a sound list no WAITING entry could still be granted: no slot is FREE, or one of the four conditions fails
for it (R99, R101). -/
def Obligations.GrantPassLeavesNothingGrantable : Prop :=
  ∀ s t : State, s.ListSound → t = s.grantPass → ∀ c e x left, (t.cell c).state = .waiting e x left →
    t.TableFull ∨ ¬ t.NoHolderAgainst e.claim ∨
      (∃ d ∈ t.ahead c, ∃ o ∈ (t.cell d).state.waiting?, o.claim.conflicts e.claim = true) ∨
      t.SweepMatches e.agent e.range ∨ (t.agent e.agent).leaseLimit ≤ t.ownedSlots e.agent

/-! ### Sweeps -/

/-- START_SWEEP and ABORT_SWEEP: their refusals, the record a start writes and the entries it cancels, which are the target's, or with
cancel-waiters those whose range intersects the sweep's, and their number; the end by abort; a grant pass where the rules call for one (R148,
R151, R152, R158, R163). -/
def Obligations.SweepsStartAndAbort : Prop :=
  (∀ e : WaitEntry,
    (∀ a, (SweepKind.agent a).cancels e = true ↔ e.agent = a) ∧
    (∀ r, (SweepKind.range r true).cancels e = true ↔ r.first ≤ e.range.last ∧ e.range.first ≤ r.last) ∧
    ∀ r, (SweepKind.range r false).cancels e = false) ∧
  (∀ (s : State) (p : WaitEntry → Bool), s.countWaiting p =
    ((List.finRange 64).filter fun c => decide (∃ e ∈ (s.cell c).state.waiting?, p e = true)).length) ∧
  ∀ (s : State) (kind : BitVec 2) (first last : Word), s.resetHeld = false → kind = s.params[0].extractLsb' 0 2 →
    first = s.params[1] → last = s.params[2] →
    (s.sweep.status = .inProgress →
      exec .startSweep s = .next (s.finish .sweepBusy 0 0) ∧
      exec .abortSweep s = .next
        ((State.raise { s with sweep := { s.sweep with status := .aborted } } .sweepDone 3).grantPass.finish .done 0 0)) ∧
    (s.sweep.status ≠ .inProgress →
      exec .abortSweep s = .next (s.finish .noSweep 0 0) ∧
      (kind ≠ 1 → kind ≠ 2 → exec .startSweep s = .next (s.finish .badArgument 0 0)) ∧
      (kind = 1 → ¬ (first ≤ last ∧ last ≤ s.largestGranule) → exec .startSweep s = .next (s.finish .badArgument 0 0)) ∧
      (kind = 2 → s.portCount ≤ first.toNat → exec .startSweep s = .next (s.finish .badArgument 0 0)) ∧
      ∀ x, (kind = 1 ∧ first ≤ last ∧ last ≤ s.largestGranule ∧ x = .range ⟨first, last⟩ (s.params[0].getLsbD 8) ∨
          kind = 2 ∧ ∃ a : AgentNo, first.toNat = a.val ∧ a.val < s.portCount ∧ x = .agent a) →
        ∃ u : State, u = { s with sweep := ⟨.inProgress, some x, 0, 0, 9⟩, cells := u.cells } ∧
          (∀ c e r left, (s.cell c).state = .waiting e r left → x.cancels e = true →
            u.cell c = ⟨(s.cell c).generation, .ended e .cancelled (s.collectWindow.toNat * 1000)⟩) ∧
          (∀ c, (∀ e ∈ (s.cell c).state.waiting?, x.cancels e = false) → u.cell c = s.cell c) ∧
          (s.countWaiting x.cancels = 0 → exec .startSweep s = .next (u.finish .done 0 0)) ∧
          (s.countWaiting x.cancels ≠ 0 →
            exec .startSweep s = .next (u.grantPass.finish .done (BitVec.ofNat 32 (s.countWaiting x.cancels)) 0)))

/-- A visit acts on its slot, advances the record and makes its pass; the visit of slot 127 completes the sweep, raises SWEEP_DONE and
makes the one pass; where no sweep is IN_PROGRESS no visit is taken (R44, R154, R155, R157). -/
def Obligations.VisitsRevokeMatchedLeases : Prop :=
  (∀ s : State, s.sweep.status ≠ .inProgress → exec .visit s = .next s) ∧
  ∀ (s : State) (k : SlotNo) (u v : State) (n : Nat) (pass : Bool), s.sweep.status = .inProgress →
    s.sweep.nextSlot = k.val → s.VisitActs k u n pass →
    v = { u with
      sweep := { s.sweep with
        nextSlot := k.val + 1
        revokedCount := s.sweep.revokedCount + n
        tenths := min 9 ((128 - (k.val + 1)) * 10 / 128) } } →
    (k.val < 127 → pass = false → exec .visit s = .next v) ∧ (k.val < 127 → pass = true → exec .visit s = .next v.grantPass) ∧
    (k.val = 127 → exec .visit s = .next
      (State.raise { v with sweep := { v.sweep with status := .completed } } .sweepDone 2).grantPass)

/-- After each visit tenths remaining is the smaller of 9 and the whole part of (128 - next slot) x 10 / 128, which the table of R156
spells out (R156). -/
def Obligations.TenthsRemainingAfterVisit : Prop :=
  ∀ s : State, s.sweep.status = .inProgress → s.sweep.nextSlot < 128 →
    ∃ t n, exec .visit s = .next t ∧ n = s.sweep.nextSlot + 1 ∧ t.sweep.nextSlot = n ∧
      t.sweep.tenths = min 9 ((128 - n) * 10 / 128) ∧
      (n ≤ 12 → t.sweep.tenths = 9) ∧ (13 ≤ n → n ≤ 25 → t.sweep.tenths = 8) ∧ (26 ≤ n → n ≤ 38 → t.sweep.tenths = 7) ∧
      (39 ≤ n → n ≤ 51 → t.sweep.tenths = 6) ∧ (52 ≤ n → n ≤ 64 → t.sweep.tenths = 5) ∧
      (65 ≤ n → n ≤ 76 → t.sweep.tenths = 4) ∧ (77 ≤ n → n ≤ 89 → t.sweep.tenths = 3) ∧
      (90 ≤ n → n ≤ 102 → t.sweep.tenths = 2) ∧ (103 ≤ n → n ≤ 115 → t.sweep.tenths = 1) ∧
      (116 ≤ n → n ≤ 128 → t.sweep.tenths = 0)

/-! ### The host's commands -/

/-- SET_AGENT: its tests in order, and what it applies; the fields are read where R189 places them (R133, R134, R189). -/
def Obligations.SetAgentTestsAndApplies : Prop :=
  (∀ (ps : Vector Word 6) (c : ArbiterClass) (n : Nat),
    portParams ps = some (c, n) ↔
      (ps[1].extractLsb' 4 2).toNat = c.code ∧ n = (ps[1].extractLsb' 8 8).toNat ∧ n ≤ 16) ∧
  (∀ (w : Word) (x : ScoreSettings),
    settingsParam w = some x ↔
      (w.extractLsb' 16 2).toNat = x.scoreClass.code ∧ x.threshold = (w.extractLsb' 0 8).toNat ∧ x.threshold ≤ 100 ∧
        x.penalty = (w.extractLsb' 8 8).toNat ∧ 1 ≤ x.penalty ∧ x.penalty ≤ 50) ∧
  ∀ s : State, s.resetHeld = false →
    ((∀ a : AgentNo, s.params[0].toNat = a.val → s.port a = .absent) →
      exec .setAgent s = .next (s.finish .badArgument 0 0)) ∧
    ∀ (a : AgentNo) (port conduct : Bool) (old : AgentRecord), s.params[0].toNat = a.val → s.port a ≠ .absent →
      port = s.params[1].getLsbD 0 → conduct = s.params[1].getLsbD 1 → old = s.agent a →
      (port = true → portParams s.params = none → exec .setAgent s = .next (s.finish .badArgument 0 0)) ∧
      ((port = true → portParams s.params ≠ none) → conduct = true →
        (settingsParam s.params[2] = none ∨ settingsParam s.params[3] = none ∨ settingsParam s.params[4] = none) →
        exec .setAgent s = .next (s.finish .badArgument 0 0)) ∧
      ((port = true → portParams s.params ≠ none) → conduct = true →
        settingsParam s.params[2] ≠ none → settingsParam s.params[3] ≠ none → settingsParam s.params[4] ≠ none →
        s.lock = true → exec .setAgent s = .next (s.finish .locked 0 0)) ∧
      ((conduct = true →
          settingsParam s.params[2] ≠ none ∧ settingsParam s.params[3] ≠ none ∧ settingsParam s.params[4] ≠ none ∧
            s.lock = false) →
        port = true → (∃ c n, portParams s.params = some (c, n) ∧ n < s.ownedSlots a) →
        exec .setAgent s = .next (s.finish .inUse 0 0)) ∧
      ∀ r u v : _,
        (port = false → r.arbiterClass = old.arbiterClass ∧ r.leaseLimit = old.leaseLimit) →
        (port = true → portParams s.params = some (r.arbiterClass, r.leaseLimit) ∧ s.ownedSlots a ≤ r.leaseLimit) →
        (r.overstay = { old.overstay with settings := r.overstay.settings } ∧
          r.abandon = { old.abandon with settings := r.abandon.settings } ∧
          r.trespass = { old.trespass with settings := r.trespass.settings }) →
        (conduct = false → r.overstay = old.overstay ∧ r.abandon = old.abandon ∧ r.trespass = old.trespass) →
        (conduct = true → s.lock = false ∧ settingsParam s.params[2] = some r.overstay.settings ∧
          settingsParam s.params[3] = some r.abandon.settings ∧ settingsParam s.params[4] = some r.trespass.settings) →
        u = s.updateConduct a r →
        (((old.leaseLimit < r.leaseLimit ∨ s.BarsWaiter u a) ∧ v = u.grantPass) ∨
          (r.leaseLimit ≤ old.leaseLimit ∧ ¬ s.BarsWaiter u a ∧ v = u)) →
        exec .setAgent s = .next
          (v.finish .done (BitVec.ofNat 32 (v.standing a).code) (BitVec.ofNat 32 (v.ownedSlots a)))

/-- The seven tests of LOAD_PROFILE in their order (R178), and what test 5 asks: every field of the block where 13.6 places it, in its range,
no other bit set (R177), and no two valid entries that intersect (R6). -/
def Obligations.LoadProfileTests : Prop :=
  (∀ (st : Vector Half 48) (e : Fin 8) (w firstLow firstHigh lastLow lastHigh : Half) (p : Partition),
    w = st[(⟨1 + 5 * e.val, by omega⟩ : Fin 48)] → firstLow = st[(⟨2 + 5 * e.val, by omega⟩ : Fin 48)] →
    firstHigh = st[(⟨3 + 5 * e.val, by omega⟩ : Fin 48)] → lastLow = st[(⟨4 + 5 * e.val, by omega⟩ : Fin 48)] →
    lastHigh = st[(⟨5 + 5 * e.val, by omega⟩ : Fin 48)] → p = (readProfile st).map[e] →
    p.valid = w.getLsbD 0 ∧ p.firstAgent.val = (w.extractLsb' 3 5).toNat ∧ p.lastAgent.val = (w.extractLsb' 8 5).toNat ∧
    ((w.extractLsb' 1 2).toNat = 0 → p.policy = .openAccess) ∧ ((w.extractLsb' 1 2).toNat = 1 → p.policy = .readOnly) ∧
    ((w.extractLsb' 1 2).toNat = 2 → p.policy = .closed) ∧ p.range.first.toNat = firstLow.toNat + firstHigh.toNat * 65536 ∧
    p.range.last.toNat = lastLow.toNat + lastHigh.toNat * 65536 ∧
    ∀ largest : Word, partitionInRange largest st e.val = true ↔
      (w.extractLsb' 1 2).toNat ≤ 2 ∧ (w.extractLsb' 13 3).toNat = 0 ∧ p.firstAgent ≤ p.lastAgent ∧ p.range.first ≤ p.range.last ∧
        p.range.last ≤ largest) ∧
  (∀ (st : Vector Half 48) (h : Half) (x : ScoreSettings),
    (h = st[41] ∧ x = (readProfile st).overstay ∨ h = st[42] ∧ x = (readProfile st).abandon ∨
      h = st[43] ∧ x = (readProfile st).trespass) →
    x.threshold = (h.extractLsb' 0 7).toNat ∧ x.penalty = (h.extractLsb' 7 6).toNat ∧
    ((h.extractLsb' 13 2).toNat = 1 → x.scoreClass = .advisory) ∧ ((h.extractLsb' 13 2).toNat = 2 → x.scoreClass = .barring) ∧
    (settingsInRange h = true ↔
      x.threshold ≤ 100 ∧ 1 ≤ x.penalty ∧ x.penalty ≤ 50 ∧ ((h.extractLsb' 13 2).toNat = 1 ∨ (h.extractLsb' 13 2).toNat = 2) ∧
        h.getLsbD 15 = false)) ∧
  (∀ st : Vector Half 48,
    (readProfile st).unitCode = st[44].extractLsb' 0 2 ∧ (readProfile st).yieldFlag = st[44].getLsbD 2 ∧
    (readProfile st).holdPeriod = st[45].extractLsb' 0 8 ∧ (readProfile st).collectWindow = st[46].extractLsb' 0 8 ∧
    ∀ largest : Word, profileFieldsInRange largest st = true ↔
      (∀ e : Fin 8, partitionInRange largest st e.val = true) ∧ settingsInRange st[41] = true ∧ settingsInRange st[42] = true ∧
      settingsInRange st[43] = true ∧ (st[44].extractLsb' 3 13).toNat = 0 ∧ (1 ≤ st[45].toNat ∧ st[45].toNat ≤ 255) ∧
      (1 ≤ st[46].toNat ∧ st[46].toNat ≤ 255) ∧
      ∀ i j : Fin 8, i ≠ j → (readProfile st).map[i].valid = true → (readProfile st).map[j].valid = true →
        ¬ ((readProfile st).map[i].range.first ≤ (readProfile st).map[j].range.last ∧
          (readProfile st).map[j].range.first ≤ (readProfile st).map[i].range.last)) ∧
  (∀ st : Vector Half 48, (profileSum st).toNat = (st.toList.map BitVec.toNat).sum % 65536) ∧
  ∀ (s : State) (p : Profile) (conflict : Prop), s.resetHeld = false → p = readProfile s.staging →
    (conflict ↔ (∃ k l, (s.slot k).state.holding? = some l ∧ admissible p.map l.owner l.range = false) ∨
      ∃ c e, (s.cell c).state.waiting? = some e ∧ admissible p.map e.agent e.range = false) →
    (s.lock = true → exec .loadProfile s = .next (s.finish .locked 0 0)) ∧
    (s.lock = false →
      (s.sweep.status = .inProgress → exec .loadProfile s = .next (s.finish .sweepBusy 0 0)) ∧
      (s.sweep.status ≠ .inProgress →
        (s.staging[0] ≠ 1 → exec .loadProfile s = .next (s.finish .badRevision 0 0)) ∧
        (s.staging[0] = 1 →
          (profileSum s.staging ≠ 0 → exec .loadProfile s = .next (s.finish .badChecksum 0 0)) ∧
          (profileSum s.staging = 0 →
            (profileFieldsInRange s.largestGranule s.staging = false →
              exec .loadProfile s = .next (s.finish .badField 0 0)) ∧
            (profileFieldsInRange s.largestGranule s.staging = true →
              ((∀ i : Fin 8, p.map[i].valid = false) → exec .loadProfile s = .next (s.finish .notFound 0 0)) ∧
              ((∃ i : Fin 8, p.map[i].valid = true) → conflict →
                exec .loadProfile s = .next (s.finish .mapConflict 0 0)))))))

/-- A LOAD_PROFILE that passes every test: map, settings of all 32 records and part-wide settings replaced, every standing derived with its
consequences in ascending agent number, one grant pass if an entry was readied, and its two counts (R179). -/
def Obligations.LoadProfileApplies : Prop :=
  ∀ (s : State) (p : Profile), s.resetHeld = false → p = readProfile s.staging → s.lock = false →
    s.sweep.status ≠ .inProgress → s.staging[0] = 1 → profileSum s.staging = 0 →
    profileFieldsInRange s.largestGranule s.staging = true → (∃ i : Fin 8, p.map[i].valid = true) →
    (∀ k l, (s.slot k).state.holding? = some l → admissible p.map l.owner l.range = true) →
    (∀ c e, (s.cell c).state.waiting? = some e → admissible p.map e.agent e.range = true) →
    ∃ (u : State) (changed valid : Nat),
      u = { s with
        map := p.map, unitCode := p.unitCode, holdPeriod := p.holdPeriod, collectWindow := p.collectWindow,
        yieldFlag := p.yieldFlag, agents := u.agents, sources := u.sources, cells := u.cells } ∧
      (∀ a, u.agent a =
        { s.agent a with
          overstay := { (s.agent a).overstay with settings := p.overstay }
          abandon := { (s.agent a).abandon with settings := p.abandon }
          trespass := { (s.agent a).trespass with settings := p.trespass } }) ∧
      (∀ c e x left, (s.cell c).state = .waiting e x left → s.Enters u e.agent .barred →
        u.cell c = ⟨(s.cell c).generation, .ended e .barred (p.collectWindow.toNat * 1000)⟩) ∧
      (∀ c, (∀ e ∈ (s.cell c).state.waiting?, ¬ s.Enters u e.agent .barred) → u.cell c = s.cell c) ∧
      (∀ a, s.LastToEnter u a .barred → u.sources[0] = ⟨true, BitVec.ofNat 8 a.val, s.sources[0].enabled⟩) ∧
      ((∀ a, ¬ s.Enters u a .barred) → u.sources[0] = s.sources[0]) ∧
      (∀ a, s.LastToEnter u a .advised → u.sources[3] = ⟨true, BitVec.ofNat 8 a.val, s.sources[3].enabled⟩) ∧
      ((∀ a, ¬ s.Enters u a .advised) → u.sources[3] = s.sources[3]) ∧
      (∀ n : Fin 8, n ≠ 0 → n ≠ 3 → u.sources[n] = s.sources[n]) ∧
      changed = ((List.finRange 32).filter fun a => decide (s.standing a ≠ u.standing a)).length ∧
      valid = ((List.finRange 8).filter fun i => p.map[i].valid).length ∧
      (u.cells = s.cells →
        exec .loadProfile s = .next (u.finish .done (BitVec.ofNat 32 changed) (BitVec.ofNat 32 valid))) ∧
      (u.cells ≠ s.cells →
        exec .loadProfile s = .next (u.grantPass.finish .done (BitVec.ofNat 32 changed) (BitVec.ofNat 32 valid)))

/-- CLEAR_ALL erases what R182 names and keeps everything else (R51, R114, R149, R182, R187); CLEAR_AGENT resets the three values and raw
counts, keeps the settings, derives the standing again and makes no pass (R136). -/
def Obligations.ClearingCommands : Prop :=
  (∀ s : State, s.resetHeld = false → ∃ t, exec .clearAll s = .next t ∧
    t = { s with
      slots := t.slots, cells := t.cells, order := [], agents := t.agents, sources := t.sources,
      sweep := t.sweep, snapshot := none, frozen := false, rotation := 0, lowPointer := 0, lock := false, result := .done,
      params := (s.params.set 4 0).set 5 0 } ∧
    (∀ k, ((s.slot k).state = .free → t.slot k = s.slot k) ∧
      ((s.slot k).state ≠ .free → t.slot k = ⟨(s.slot k).generation + 1, .free⟩)) ∧
    (∀ c, ((s.cell c).state = .empty → t.cell c = s.cell c) ∧
      ((s.cell c).state ≠ .empty → t.cell c = ⟨(s.cell c).generation + 1, .empty⟩)) ∧
    (∀ a, t.agent a =
      { s.agent a with
        overstay := { (s.agent a).overstay with value := 100, rawCount := 0 }
        abandon := { (s.agent a).abandon with value := 100, rawCount := 0 }
        trespass := { (s.agent a).trespass with value := 100, rawCount := 0 } }) ∧
    (∀ n : Fin 8, t.sources[n] = { s.sources[n] with pending := false }) ∧
    (s.sweep.status = .inProgress → t.sweep = { s.sweep with status := .interrupted }) ∧
    (s.sweep.status ≠ .inProgress → t.sweep = s.sweep)) ∧
  ∀ s : State, s.resetHeld = false →
    ((∀ a : AgentNo, s.params[0].toNat = a.val → s.port a = .absent) →
      exec .clearAgent s = .next (s.finish .badArgument 0 0)) ∧
    ∀ (a : AgentNo) (u : State), s.params[0].toNat = a.val → s.port a ≠ .absent →
      u = s.updateConduct a
        { s.agent a with
          overstay := { (s.agent a).overstay with value := 100, rawCount := 0 }
          abandon := { (s.agent a).abandon with value := 100, rawCount := 0 }
          trespass := { (s.agent a).trespass with value := 100, rawCount := 0 } } →
      exec .clearAgent s = .next (u.finish .done (BitVec.ofNat 32 (u.standing a).code) 0)

/-- LOCK, and the law of the lock: while it is set no command but power-on changes the policy, and no command but CLEAR_ALL and power-on
clears it (R181). -/
def Obligations.LockProtectsThePolicy : Prop :=
  (∀ s : State, s.resetHeld = false →
    (s.lock = false → exec .lock s = .next (State.finish { s with lock := true } .done 0 0)) ∧
    (s.lock = true → exec .lock s = .next (s.finish .ignored 0 0))) ∧
  ∀ (c : Instr) (s t : State), s.lock = true → exec c s = .next t → c ≠ .resetHeld → (∀ g n l, c ≠ .powerOn g n l) →
    t.map = s.map ∧ t.unitCode = s.unitCode ∧ t.holdPeriod = s.holdPeriod ∧ t.collectWindow = s.collectWindow ∧
    t.yieldFlag = s.yieldFlag ∧
    (∀ a, (t.agent a).overstay.settings = (s.agent a).overstay.settings ∧
      (t.agent a).abandon.settings = (s.agent a).abandon.settings ∧
      (t.agent a).trespass.settings = (s.agent a).trespass.settings) ∧
    (c.wellFormed = true → c ≠ .clearAll → t.lock = true)

/-- The reading commands, the closing read and DROP_SNAPSHOT; and the law of the buffer: a held image is let go by these, CLEAR_ALL and
power-on alone, and changed by nothing (R166, R167, R169). -/
def Obligations.SnapshotBufferHoldsOneImage : Prop :=
  (∀ (s : State) (c : Instr) (im : Vector Word 12), s.resetHeld = false →
    (c = .readLease ∧ (∃ k : SlotNo, s.params[0].toNat = k.val ∧ im = s.leaseImage k) ∨
      c = .readWait ∧ (∃ d : CellNo, s.params[0].toNat = d.val ∧ im = s.waitImage d) ∨
      c = .readAgent ∧ (∃ a : AgentNo, s.params[0].toNat = a.val ∧ im = s.agentImage a) ∨
      c = .readSweep ∧ im = s.sweepImage) →
    (s.snapshot = none → exec c s = .next (State.finish { s with snapshot := some im } .done 0 0)) ∧
    (s.snapshot ≠ none → exec c s = .next (s.finish .ignored 0 0))) ∧
  (∀ s : State, s.resetHeld = false →
    (128 ≤ s.params[0].toNat → exec .readLease s = .next (s.finish .badArgument 0 0)) ∧
    (64 ≤ s.params[0].toNat → exec .readWait s = .next (s.finish .badArgument 0 0)) ∧
    (32 ≤ s.params[0].toNat → exec .readAgent s = .next (s.finish .badArgument 0 0)) ∧
    (s.snapshot = none → exec .dropSnapshot s = .next (s.finish .ignored 0 0) ∧
      exec .closingRead s = .next { s with lbData := some 0 } ∧ ∀ n, 16 ≤ n → n ≤ 27 → s.windowWord n = 0) ∧
    ∀ im, s.snapshot = some im →
      exec .dropSnapshot s = .next (State.finish { s with snapshot := none } .done 0 0) ∧
      exec .closingRead s = .next { s with lbData := some im[11], snapshot := none } ∧
      ∀ i : Fin 12, s.windowWord (16 + i.val) = im[i]) ∧
  ∀ (c : Instr) (s t : State) (im : Vector Word 12), s.snapshot = some im → exec c s = .next t → c.wellFormed = true →
    c ≠ .closingRead → c ≠ .dropSnapshot → c ≠ .clearAll → c ≠ .resetHeld → (∀ g n l, c ≠ .powerOn g n l) →
    t.snapshot = some im

/-- The images of a lease, a wait, an agent and the sweep record, word for word: fields, presence mask, timers rounded up and never 0 (R19, R27,
R91, R94, R118, R148, R168, 13.5; a timer whose expiry is yet to be taken by log 27, the mask's numbering by log 15). That the bits
beside the fields of an image word read 0 is the model's choice, log 28. The premises are laws of the part. -/
def Obligations.SnapshotImageWords : Prop :=
  ∀ s : State, s.ListSound → s.FieldsInRange → s.ScoresInRange → s.WithinLimits →
  (∀ (k : SlotNo) (im : Vector Word 12) (g : BitVec 8), im = s.leaseImage k → (s.slot k).generation = g →
    im[0].toNat = 16777216 + k.val ∧ im[11] = im[0] ∧ im[7] = 0 ∧ im[8] = 0 ∧ im[9] = 0 ∧ im[10] = 0 ∧
    ((s.slot k).state = .free → im[1] = 0x003 ∧ im[2].toNat = g.toNat ∧ im[3] = 0 ∧ im[4] = 0 ∧ im[5] = 0 ∧ im[6] = 0) ∧
    (∀ r, (s.slot k).state = .fence r → im[1] = 0x03F ∧ im[2].toNat = g.toNat + 2 * 256 + 2 * 4096 + 32 * 65536 ∧
      im[3] = r.first ∧ im[4] = r.last ∧ im[5] = 0 ∧ im[6] = 0) ∧
    ∀ (l : AgentLease) (m : Nat), m = (if l.mode = .exclusive then 1 else 0) →
      (∀ c, (s.slot k).state = .reserved l c → im[1] = 0xF7F ∧
        im[2].toNat = g.toNat + 1 * 256 + m * 4096 + l.owner.val * 65536 ∧ im[3] = l.range.first ∧ im[4] = l.range.last ∧
        im[5].toNat = l.term.toNat ∧
        im[6].toNat = (if l.auto then 1 else 0) + l.allowance.toNat * 256 + l.budget.toNat * 65536 + c.val * 16777216) ∧
      ∀ r code, ((s.slot k).state = .held l r ∧ code = 2 ∨ (s.slot k).state = .lapsed l r ∧ code = 3 ∨
          (s.slot k).state = .revoked l r ∧ code = 4) →
        im[1] = 0x7FF ∧ im[2].toNat = g.toNat + code * 256 + m * 4096 + l.owner.val * 65536 ∧ im[3] = l.range.first ∧
        im[4] = l.range.last ∧ im[5].toNat = l.term.toNat + max 1 ((r + 999) / 1000) * 65536 ∧
        im[6].toNat = (if l.auto then 1 else 0) + l.allowance.toNat * 256 + l.budget.toNat * 65536) ∧
  (∀ (c : CellNo) (im : Vector Word 12) (g : BitVec 8), im = s.waitImage c → (s.cell c).generation = g →
    im[0].toNat = 2 * 16777216 + c.val ∧ im[11] = im[0] ∧ im[8] = 0 ∧ im[9] = 0 ∧ im[10] = 0 ∧
    ((s.cell c).state = .empty → im[1] = 0x0003 ∧ im[2].toNat = g.toNat ∧ im[3] = 0 ∧ im[4] = 0 ∧ im[5] = 0 ∧ im[6] = 0 ∧ im[7] = 0) ∧
    ∀ (e : WaitEntry) (n place : Nat), place = (s.order.takeWhile (· != c)).length →
      n = g.toNat + e.agent.val * 65536 + (if e.mode = .exclusive then 16777216 else 0) + (if e.auto then 33554432 else 0) →
      ((s.cell c).state.entry? = some e →
        im[3] = e.range.first ∧ im[4] = e.range.last ∧ im[5].toNat = e.term.toNat + e.allowance.toNat * 65536) ∧
      (∀ x left why, (s.cell c).state = .waiting e x left →
        (x = .conflict ∧ why = 0 ∨ x = .sweep ∧ why = 1 ∨ x = .noSlot ∧ why = 2) →
        im[2].toNat = n + 1 * 256 + why * 67108864 ∧ im[7].toNat = place * 256 ∧
        (left = none → im[1] = 0x47BF ∧ im[6] = 0) ∧ ∀ r, left = some r → im[1] = 0x4FBF ∧ im[6].toNat = max 1 ((r + 999) / 1000)) ∧
      (∀ r k, (s.cell c).state = .granted e r k →
        im[1] = 0x77DF ∧ im[2].toNat = n + 2 * 256 ∧ im[6].toNat = max 1 ((r + 999) / 1000) * 65536 ∧ im[7].toNat = k.val + place * 256) ∧
      ∀ o r how, (s.cell c).state = .ended e o r →
        (o = .timedOut ∧ how = 1 ∨ o = .cancelled ∧ how = 2 ∨ o = .barred ∧ how = 3) →
        im[1] = 0x57DF ∧ im[2].toNat = n + 2 * 256 + how * 268435456 ∧ im[6].toNat = max 1 ((r + 999) / 1000) * 65536 ∧
          im[7].toNat = place * 256) ∧
  (∀ (a : AgentNo) (im : Vector Word 12) (x : AgentRecord) (word : Score → Nat), im = s.agentImage a → x = s.agent a →
    word = (fun y => y.value + y.settings.threshold * 256 + y.settings.penalty * 65536 + y.settings.scoreClass.code * 16777216) →
    im[0].toNat = 3 * 16777216 + a.val ∧ im[11] = im[0] ∧ im[8] = 0 ∧ im[9] = 0 ∧ im[10] = 0 ∧ im[1] = 0x1FFFFF ∧
    im[2].toNat = (s.port a).code + x.arbiterClass.code * 4 + x.leaseLimit * 256 + s.ownedSlots a * 65536 + s.ticketCount a * 16777216 +
      (s.standing a).code * 268435456 ∧
    im[3].toNat = word x.overstay ∧ im[4].toNat = word x.abandon ∧ im[5].toNat = word x.trespass ∧
    im[6].toNat = x.overstay.rawCount + x.abandon.rawCount * 65536 ∧ im[7].toNat = x.trespass.rawCount) ∧
  ∀ (im : Vector Word 12) (n : Nat), im = s.sweepImage → n = s.sweep.status.code →
    im[0].toNat = 4 * 16777216 ∧ im[11] = im[0] ∧ im[6] = 0 ∧ im[7] = 0 ∧ im[8] = 0 ∧ im[9] = 0 ∧ im[10] = 0 ∧
    im[5].toNat = s.sweep.nextSlot + s.sweep.revokedCount * 256 + s.sweep.tenths * 65536 ∧
    (s.sweep.kind = none → im[1] = 0x1C1 ∧ im[2].toNat = n ∧ im[3] = 0 ∧ im[4] = 0) ∧
    (∀ r cancel, s.sweep.kind = some (.range r cancel) →
      im[1] = 0x1F7 ∧ im[2].toNat = n + 1 * 16 + (if cancel then 64 else 0) ∧ im[3] = r.first ∧ im[4] = r.last) ∧
    ∀ a, s.sweep.kind = some (.agent a) → im[1] = 0x1CB ∧ im[2].toNat = n + 2 * 16 + a.val * 256 ∧ im[3] = 0 ∧ im[4] = 0

/-- FENCE_SET and FENCE_CLEAR: their refusals in order, the fence in the lowest FREE slot without a pass, the freeing with a pass (R48, R49,
R170, R172). -/
def Obligations.FencesAreSetAndCleared : Prop :=
  (∀ (s : State) (r : GranuleRange), s.resetHeld = false → r = ⟨s.params[0], s.params[1]⟩ →
    (¬ (r.first ≤ r.last ∧ r.last ≤ s.largestGranule) → exec .fenceSet s = .next (s.finish .badArgument 0 0)) ∧
    (r.first ≤ r.last → r.last ≤ s.largestGranule →
      ((∃ k l, (s.slot k).state.holding? = some l ∧ l.range.intersects r = true) →
        exec .fenceSet s = .next (s.finish .inUse 0 0)) ∧
      ((∀ k l, (s.slot k).state.holding? = some l → l.range.intersects r = false) →
        (s.TableFull → exec .fenceSet s = .next (s.finish .tableFull 0 0)) ∧
        ∀ k, s.LowestFreeIs k → exec .fenceSet s = .next
          (State.finish { s with slots := s.slots.set k ⟨(s.slot k).generation, .fence r⟩ } .done
            ((Handle.mk k (s.slot k).generation).bits.setWidth 32) 0)))) ∧
  ∀ (s : State) (h : Handle), s.resetHeld = false → h = handleOf s.params[0] →
    (∀ r, s.slot h.slot = ⟨h.generation, .fence r⟩ →
      exec .fenceClear s = .next
        ((State.grantPass { s with slots := s.slots.set h.slot ⟨h.generation + 1, .free⟩ }).finish .done 0 0)) ∧
    ((∀ r, s.slot h.slot ≠ ⟨h.generation, .fence r⟩) → exec .fenceClear s = .next (s.finish .stale 0 0))

/-- REVOKE of a HELD or LAPSED lease and of a RESERVED slot, CANCEL_TICKET of a WAITING entry, each with one pass and its values; and their
refusals (R44, R97, R112, R173, R174, R175). -/
def Obligations.RevokeAndCancelTicket : Prop :=
  (∀ (s : State) (h : Handle), s.resetHeld = false → h = handleOf s.params[0] →
    ((s.slot h.slot).generation ≠ h.generation ∨ (s.slot h.slot).state = .free ∨ (∃ l r, (s.slot h.slot).state = .revoked l r) →
      exec .revoke s = .next (s.finish .stale 0 0)) ∧
    (∀ r, s.slot h.slot = ⟨h.generation, .fence r⟩ → exec .revoke s = .next (s.finish .badArgument 0 0)) ∧
    (∀ l r u, u = { s with slots := s.slots.set h.slot ⟨h.generation, .revoked l (s.holdPeriod.toNat * 1000)⟩ } →
      (s.slot h.slot = ⟨h.generation, .held l r⟩ →
        exec .revoke s = .next (u.grantPass.finish .done 2 (BitVec.ofNat 32 l.owner.val))) ∧
      (s.slot h.slot = ⟨h.generation, .lapsed l r⟩ →
        exec .revoke s = .next (u.grantPass.finish .done 3 (BitVec.ofNat 32 l.owner.val)))) ∧
    ∀ l c e left, s.slot h.slot = ⟨h.generation, .reserved l c⟩ → (s.cell c).state = .granted e left h.slot →
      exec .revoke s = .next
        ((State.grantPass
          { s with
            slots := s.slots.set h.slot ⟨h.generation + 1, .free⟩
            cells := s.cells.set c ⟨(s.cell c).generation, .ended e .cancelled left⟩ }).finish .done 1
          (BitVec.ofNat 32 l.owner.val))) ∧
  ∀ (s : State) (t : Ticket), s.resetHeld = false → t = ticketOf s.params[0] →
    (s.TicketStale t → exec .cancelTicket s = .next (s.finish .stale 0 0)) ∧
    (∀ e left k, s.cell t.cell = ⟨t.generation, .granted e left k⟩ → exec .cancelTicket s = .next (s.finish .ignored 0 0)) ∧
    (∀ e o left, s.cell t.cell = ⟨t.generation, .ended e o left⟩ → exec .cancelTicket s = .next (s.finish .ignored 0 0)) ∧
    ∀ e r left, s.cell t.cell = ⟨t.generation, .waiting e r left⟩ →
      exec .cancelTicket s = .next
        ((State.grantPass
          { s with
            cells := s.cells.set t.cell ⟨t.generation, .ended e .cancelled (s.collectWindow.toNat * 1000)⟩ }).finish .done
          (BitVec.ofNat 32 e.agent.val) 0)

/-- A write of the command word takes the command its code names, 1 to 18 in the order of 13.2, and any other code is refused BAD_ARGUMENT;
writes of the enables, of word 58 and of the acknowledge word have their effects (R163, R185, R186, 13.4; as REGISTER_WRITE and
UNKNOWN_COMMAND terms that are not well formed, logs 4 and 5); a write of a parameter word or of two profile words stores it and reads back; a write
of any other word without a behaviour of its own is ignored (R163, R177, R189). What the status word, the result word, the interrupt words
and the words the table does not list read (R164, R165, R184, R185, R189, 13.4); that the bits of a listed word that hold no field read 0 is
the model's choice, log 28. -/
def Obligations.WindowWordsReadAndWritten : Prop :=
  ∀ s : State, s.resetHeld = false →
    (∀ code : BitVec 8, code = 0 ∨ 19 ≤ code.toNat → exec (.unknownCommand code) s = .next (s.finish .badArgument 0 0)) ∧
    (List.map Instr.commandCode [.freeze, .thaw, .setAgent, .clearAgent, .startSweep, .abortSweep, .loadProfile, .lock, .clearAll,
      .readLease, .readWait, .readAgent, .readSweep, .dropSnapshot, .fenceSet, .fenceClear, .revoke, .cancelTicket] =
      (List.range 18).map fun n => some (n + 1)) ∧
    (∀ (c : Instr) (code : BitVec 8), c.commandCode = some code.toNat → exec (.unknownCommand code) s = exec c s) ∧
    (∀ data : Word, exec (.registerWrite 1 data) s = exec (.unknownCommand (data.extractLsb' 0 8)) s ∧
      exec (.registerWrite 57 data) s = exec (.enableWrite data) s ∧ exec (.registerWrite 60 data) s = exec (.acknowledge data) s ∧
      (∀ x, x.number.val = (data.extractLsb' 4 4).toNat →
        exec (.registerWrite 58 data) s = .next { s with globalEnable := data.getLsbD 0, elevate := some x }) ∧
      (8 ≤ (data.extractLsb' 4 4).toNat →
        exec (.registerWrite 58 data) s = .next { s with globalEnable := data.getLsbD 0, elevate := none })) ∧
    (∀ (i : Fin 6) (addr : BitVec 6) (data : Word), addr.toNat = 2 + i.val →
      ∃ t, exec (.registerWrite addr data) s = .next t ∧ t = { s with params := s.params.set i data } ∧
        t.windowRead addr = data) ∧
    (∀ (i : Fin 24) (addr : BitVec 6) (data : Word), addr.toNat = 32 + i.val →
      ∃ t, exec (.registerWrite addr data) s = .next t ∧ t = { s with staging := t.staging } ∧ t.windowRead addr = data ∧
        ∀ j : Fin 48, t.staging[j] =
          if j.val = 2 * i.val then data.extractLsb' 0 16
          else if j.val = 2 * i.val + 1 then data.extractLsb' 16 16 else s.staging[j]) ∧
    (∀ (addr : BitVec 6) (data : Word),
      (addr.toNat = 0 ∨ (8 ≤ addr.toNat ∧ addr.toNat ≤ 31) ∨ addr = 56 ∨ addr = 59 ∨ 61 ≤ addr.toNat) →
      exec (.registerWrite addr data) s = .next s) ∧
    (s.FieldsInRange →
      (s.windowRead 0).toNat = (if s.frozen then 1 else 0) + s.unitCode.toNat * 2 + s.sweep.status.code * 16 + s.sweep.tenths * 256 +
        (if s.lock then 4096 else 0) + (if s.snapshot.isSome then 8192 else 0)) ∧
    (s.windowRead 8).toNat = s.result.code ∧
    (∀ i : Nat, (s.windowRead 56).getLsbD i = true ↔ ∃ n : Fin 8, n.val = i ∧ s.sources[n].pending = true) ∧
    (∀ i : Nat, (s.windowRead 57).getLsbD i = true ↔ ∃ n : Fin 8, n.val = i ∧ s.sources[n].enabled = true) ∧
    (s.elevate = none → (s.windowRead 58).toNat = (if s.globalEnable then 1 else 0) + 15 * 16) ∧
    (∀ x, s.elevate = some x → (s.windowRead 58).toNat = (if s.globalEnable then 1 else 0) + x.number.val * 16) ∧
    (s.top = none → (s.windowRead 59).toNat = 15) ∧ (∀ x, s.top = some x → (s.windowRead 59).toNat = x.number.val) ∧
    (∀ d : Fin 8 → Nat, d = (fun n => s.sources[n].detail.toNat) →
      (s.windowRead 61).toNat = d 0 + d 1 * 256 + d 2 * 65536 + d 3 * 16777216 ∧
      (s.windowRead 62).toNat = d 4 + d 5 * 256 + d 6 * 65536 + d 7 * 16777216) ∧
    ∀ addr : BitVec 6, (addr = 1 ∨ (9 ≤ addr.toNat ∧ addr.toNat ≤ 15) ∨ (28 ≤ addr.toNat ∧ addr.toNat ≤ 31) ∨ addr = 60 ∨ addr = 63) →
      s.windowRead addr = 0

/-- The writes of the interrupt controls, the acknowledgement, INT and TOP, and the raise of a source: its flag set, its detail overwritten,
its enable and every other source kept (R184, R185, R186, R189). -/
def Obligations.InterruptControls : Prop :=
  ∀ s : State, s.resetHeld = false →
    (∀ data, ∃ t, exec (.enableWrite data) s = .next t ∧ t = { s with sources := t.sources } ∧
      ∀ n : Fin 8, t.sources[n] = { s.sources[n] with enabled := data.getLsbD n.val }) ∧
    (∀ b, exec (.globalEnableWrite b) s = .next { s with globalEnable := b }) ∧
    (∀ f x, x.number.val = f.toNat → exec (.elevateWrite f) s = .next { s with elevate := some x }) ∧
    (∀ f, 8 ≤ f.toNat → exec (.elevateWrite f) s = .next { s with elevate := none }) ∧
    (∀ data, ∃ t, exec (.acknowledge data) s = .next t ∧ t = { s with sources := t.sources } ∧
      ∀ n : Fin 8, t.sources[n] = { s.sources[n] with pending := s.sources[n].pending && !data.getLsbD n.val }) ∧
    (∀ (x : Source) (detail : Nat) (t : State), t = s.raise x detail → t = { s with sources := t.sources } ∧ t.Raised x detail ∧
      t.sources[x.number].enabled = s.sources[x.number].enabled ∧ ∀ n : Fin 8, n ≠ x.number → t.sources[n] = s.sources[n]) ∧
    (∀ x, s.live x = true ↔ s.sources[x.number].pending = true ∧ s.sources[x.number].enabled = true) ∧
    (s.intLine = true ↔ s.globalEnable = true ∧ ∃ x, s.live x = true) ∧
    (s.top = none ↔ ∀ x, s.live x = false) ∧
    ∀ x, s.top = some x ↔ s.live x = true ∧
      (s.elevate = some x ∨
        (∀ e, s.elevate = some e → s.live e = false) ∧ ∀ y, s.live y = true → x.number ≤ y.number)

/-! ### The laws of the part -/

/-- Across every command but power-on a slot keeps its generation and, while occupied, its owner, mode and range, or it has been freed and
its generation advanced by one; and so with a cell and its entry (R26, R28, R91, R92). -/
def Obligations.OccupanciesKeepTheirNames : Prop :=
  ∀ (c : Instr) (s t : State), exec c s = .next t → c ≠ .resetHeld → (∀ g n l, c ≠ .powerOn g n l) →
    (∀ k, ((t.slot k).generation = (s.slot k).generation ∧
        ((s.slot k).state ≠ .free →
          (t.slot k).state.owner? = (s.slot k).state.owner? ∧ (t.slot k).state.mode? = (s.slot k).state.mode? ∧
            (t.slot k).state.range? = (s.slot k).state.range?)) ∨
      ((t.slot k).generation = (s.slot k).generation + 1 ∧ (s.slot k).state ≠ .free)) ∧
    ∀ d, ((t.cell d).generation = (s.cell d).generation ∧
        ((s.cell d).state ≠ .empty → (t.cell d).state.entry? = (s.cell d).state.entry?)) ∨
      ((t.cell d).generation = (s.cell d).generation + 1 ∧ (s.cell d).state ≠ .empty)

/-- Every step keeps the law that no two range-holding leases conflict (R15). -/
def Obligations.StepKeepsHoldersApart : Prop :=
  ∀ s t : State, s.NoTwoHoldersConflict → step s = .next t → t.NoTwoHoldersConflict

/-- Every step keeps the pairing of RESERVED slots and granted entries (R35). -/
def Obligations.StepKeepsGrantsPaired : Prop :=
  ∀ s t : State, s.GrantsPaired → step s = .next t → t.GrantsPaired

/-- Every step keeps each agent within its lease limit and its four tickets (R93, R123). -/
def Obligations.StepKeepsLimits : Prop :=
  ∀ s t : State, s.WithinLimits → step s = .next t → t.WithinLimits

/-- Every step keeps remaining within the term and budget left within the allowance (R39). -/
def Obligations.StepKeepsHeldWithinBounds : Prop :=
  ∀ s t : State, s.HeldWithinBounds → step s = .next t → t.HeldWithinBounds

/-- Every step keeps range-holding leases and WAITING entries admissible under the map (R8, R10). -/
def Obligations.StepKeepsClaimsAdmissible : Prop :=
  ∀ s t : State, s.ClaimsAdmissible → step s = .next t → t.ClaimsAdmissible

/-- Every step keeps the slots a sweep has visited clear of the leases it matches (R159). -/
def Obligations.StepKeepsSweptSlotsClear : Prop :=
  ∀ s t : State, s.SweptSlotsClear → step s = .next t → t.SweptSlotsClear

/-- Every step keeps a BARRED agent without WAITING entries (R111). -/
def Obligations.StepKeepsBarredWithoutWaiters : Prop :=
  ∀ s t : State, s.BarredDoNotWait → step s = .next t → t.BarredDoNotWait

/-- Every step keeps an older WAITING entry from being overtaken by a conflicting younger grant (R102); the soundness of the list is the
premise. -/
def Obligations.StepKeepsNoneOvertaken : Prop :=
  ∀ s t : State, s.ListSound → s.NoneOvertaken → step s = .next t → t.NoneOvertaken

/-- Every step keeps the list the list of the occupied cells, each once (R89), scores and raw counts in range (R128), the charge queue within
8 and a lookup presented only while it holds 8, CK_DONE low (R126, R188), the hold period and the collection window at least 1, terms at
least 1, every timer within the range of its state, the other settings and the sweep's counts in range (R4, R17, R24, R26, R90, R118, R124,
R148), every range held well formed (R3), the part quiet while RESET is held (R183; its tables by log 12), and valid partitions apart (R6).
That a lookup presented does not outlast the charge that makes room, nor power-on, is the model's choice, logs 10 and 11. -/
def Obligations.StepKeepsTablesSound : Prop :=
  ∀ s t : State, step s = .next t →
    (s.ListSound → t.ListSound) ∧ (s.ScoresInRange → t.ScoresInRange) ∧ (s.ChargeQueueSound → t.ChargeQueueSound) ∧
    (s.FieldsInRange → t.FieldsInRange) ∧ (s.RangesWellFormed → t.RangesWellFormed) ∧ (s.QuietUnderReset → t.QuietUnderReset) ∧
    (s.MapSound → t.MapSound)

/-- The machine right after reset meets every law of the part. -/
def Obligations.ResetIsLawful : Prop := State.reset.Lawful

end Statements
end

