-- ==== Sys2Proof/Laws/State.lean ====
section
/-! SUPPORT. What each update of State leaves unchanged: one lemma for each field, true by `rfl`, so that no proof unfolds a record
update. -/

set_option Elab.async false

namespace Sys2Proof.Machine

/-! ### `setSlot` -/

@[simp] theorem State.setSlot_pending (s : State) (k : SlotNo) (x : LeaseSlot) : (s.setSlot k x).pending = s.pending := rfl

@[simp] theorem State.setSlot_resetHeld (s : State) (k : SlotNo) (x : LeaseSlot) : (s.setSlot k x).resetHeld = s.resetHeld := rfl

@[simp] theorem State.setSlot_granule64 (s : State) (k : SlotNo) (x : LeaseSlot) : (s.setSlot k x).granule64 = s.granule64 := rfl

@[simp] theorem State.setSlot_agentsCode (s : State) (k : SlotNo) (x : LeaseSlot) :
    (s.setSlot k x).agentsCode = s.agentsCode := rfl

@[simp] theorem State.setSlot_attach (s : State) (k : SlotNo) (x : LeaseSlot) : (s.setSlot k x).attach = s.attach := rfl

@[simp] theorem State.setSlot_req (s : State) (k : SlotNo) (x : LeaseSlot) : (s.setSlot k x).req = s.req := rfl

@[simp] theorem State.setSlot_mack (s : State) (k : SlotNo) (x : LeaseSlot) : (s.setSlot k x).mack = s.mack := rfl

@[simp] theorem State.setSlot_md (s : State) (k : SlotNo) (x : LeaseSlot) : (s.setSlot k x).md = s.md := rfl

@[simp] theorem State.setSlot_lbData (s : State) (k : SlotNo) (x : LeaseSlot) : (s.setSlot k x).lbData = s.lbData := rfl

@[simp] theorem State.setSlot_ckAnswer (s : State) (k : SlotNo) (x : LeaseSlot) : (s.setSlot k x).ckAnswer = s.ckAnswer := rfl

@[simp] theorem State.setSlot_map (s : State) (k : SlotNo) (x : LeaseSlot) : (s.setSlot k x).map = s.map := rfl

@[simp] theorem State.setSlot_unitCode (s : State) (k : SlotNo) (x : LeaseSlot) : (s.setSlot k x).unitCode = s.unitCode := rfl

@[simp] theorem State.setSlot_frozen (s : State) (k : SlotNo) (x : LeaseSlot) : (s.setSlot k x).frozen = s.frozen := rfl

@[simp] theorem State.setSlot_holdPeriod (s : State) (k : SlotNo) (x : LeaseSlot) :
    (s.setSlot k x).holdPeriod = s.holdPeriod := rfl

@[simp] theorem State.setSlot_collectWindow (s : State) (k : SlotNo) (x : LeaseSlot) :
    (s.setSlot k x).collectWindow = s.collectWindow := rfl

@[simp] theorem State.setSlot_yieldFlag (s : State) (k : SlotNo) (x : LeaseSlot) : (s.setSlot k x).yieldFlag = s.yieldFlag := rfl

@[simp] theorem State.setSlot_cells (s : State) (k : SlotNo) (x : LeaseSlot) : (s.setSlot k x).cells = s.cells := rfl

@[simp] theorem State.setSlot_order (s : State) (k : SlotNo) (x : LeaseSlot) : (s.setSlot k x).order = s.order := rfl

@[simp] theorem State.setSlot_agents (s : State) (k : SlotNo) (x : LeaseSlot) : (s.setSlot k x).agents = s.agents := rfl

@[simp] theorem State.setSlot_charges (s : State) (k : SlotNo) (x : LeaseSlot) : (s.setSlot k x).charges = s.charges := rfl

@[simp] theorem State.setSlot_presented (s : State) (k : SlotNo) (x : LeaseSlot) : (s.setSlot k x).presented = s.presented := rfl

@[simp] theorem State.setSlot_heldLookups (s : State) (k : SlotNo) (x : LeaseSlot) :
    (s.setSlot k x).heldLookups = s.heldLookups := rfl

@[simp] theorem State.setSlot_rotation (s : State) (k : SlotNo) (x : LeaseSlot) : (s.setSlot k x).rotation = s.rotation := rfl

@[simp] theorem State.setSlot_lowPointer (s : State) (k : SlotNo) (x : LeaseSlot) :
    (s.setSlot k x).lowPointer = s.lowPointer := rfl

@[simp] theorem State.setSlot_tenure (s : State) (k : SlotNo) (x : LeaseSlot) : (s.setSlot k x).tenure = s.tenure := rfl

@[simp] theorem State.setSlot_sweep (s : State) (k : SlotNo) (x : LeaseSlot) : (s.setSlot k x).sweep = s.sweep := rfl

@[simp] theorem State.setSlot_params (s : State) (k : SlotNo) (x : LeaseSlot) : (s.setSlot k x).params = s.params := rfl

@[simp] theorem State.setSlot_result (s : State) (k : SlotNo) (x : LeaseSlot) : (s.setSlot k x).result = s.result := rfl

@[simp] theorem State.setSlot_snapshot (s : State) (k : SlotNo) (x : LeaseSlot) : (s.setSlot k x).snapshot = s.snapshot := rfl

@[simp] theorem State.setSlot_staging (s : State) (k : SlotNo) (x : LeaseSlot) : (s.setSlot k x).staging = s.staging := rfl

@[simp] theorem State.setSlot_lock (s : State) (k : SlotNo) (x : LeaseSlot) : (s.setSlot k x).lock = s.lock := rfl

@[simp] theorem State.setSlot_sources (s : State) (k : SlotNo) (x : LeaseSlot) : (s.setSlot k x).sources = s.sources := rfl

@[simp] theorem State.setSlot_globalEnable (s : State) (k : SlotNo) (x : LeaseSlot) :
    (s.setSlot k x).globalEnable = s.globalEnable := rfl

@[simp] theorem State.setSlot_elevate (s : State) (k : SlotNo) (x : LeaseSlot) : (s.setSlot k x).elevate = s.elevate := rfl

/-! ### `setSlotState` -/

@[simp] theorem State.setSlotState_pending (s : State) (k : SlotNo) (x : SlotState) :
    (s.setSlotState k x).pending = s.pending := rfl

@[simp] theorem State.setSlotState_resetHeld (s : State) (k : SlotNo) (x : SlotState) :
    (s.setSlotState k x).resetHeld = s.resetHeld := rfl

@[simp] theorem State.setSlotState_granule64 (s : State) (k : SlotNo) (x : SlotState) :
    (s.setSlotState k x).granule64 = s.granule64 := rfl

@[simp] theorem State.setSlotState_agentsCode (s : State) (k : SlotNo) (x : SlotState) :
    (s.setSlotState k x).agentsCode = s.agentsCode := rfl

@[simp] theorem State.setSlotState_attach (s : State) (k : SlotNo) (x : SlotState) : (s.setSlotState k x).attach = s.attach := rfl

@[simp] theorem State.setSlotState_req (s : State) (k : SlotNo) (x : SlotState) : (s.setSlotState k x).req = s.req := rfl

@[simp] theorem State.setSlotState_mack (s : State) (k : SlotNo) (x : SlotState) : (s.setSlotState k x).mack = s.mack := rfl

@[simp] theorem State.setSlotState_md (s : State) (k : SlotNo) (x : SlotState) : (s.setSlotState k x).md = s.md := rfl

@[simp] theorem State.setSlotState_lbData (s : State) (k : SlotNo) (x : SlotState) : (s.setSlotState k x).lbData = s.lbData := rfl

@[simp] theorem State.setSlotState_ckAnswer (s : State) (k : SlotNo) (x : SlotState) :
    (s.setSlotState k x).ckAnswer = s.ckAnswer := rfl

@[simp] theorem State.setSlotState_map (s : State) (k : SlotNo) (x : SlotState) : (s.setSlotState k x).map = s.map := rfl

@[simp] theorem State.setSlotState_unitCode (s : State) (k : SlotNo) (x : SlotState) :
    (s.setSlotState k x).unitCode = s.unitCode := rfl

@[simp] theorem State.setSlotState_frozen (s : State) (k : SlotNo) (x : SlotState) : (s.setSlotState k x).frozen = s.frozen := rfl

@[simp] theorem State.setSlotState_holdPeriod (s : State) (k : SlotNo) (x : SlotState) :
    (s.setSlotState k x).holdPeriod = s.holdPeriod := rfl

@[simp] theorem State.setSlotState_collectWindow (s : State) (k : SlotNo) (x : SlotState) :
    (s.setSlotState k x).collectWindow = s.collectWindow := rfl

@[simp] theorem State.setSlotState_yieldFlag (s : State) (k : SlotNo) (x : SlotState) :
    (s.setSlotState k x).yieldFlag = s.yieldFlag := rfl

@[simp] theorem State.setSlotState_cells (s : State) (k : SlotNo) (x : SlotState) : (s.setSlotState k x).cells = s.cells := rfl

@[simp] theorem State.setSlotState_order (s : State) (k : SlotNo) (x : SlotState) : (s.setSlotState k x).order = s.order := rfl

@[simp] theorem State.setSlotState_agents (s : State) (k : SlotNo) (x : SlotState) : (s.setSlotState k x).agents = s.agents := rfl

@[simp] theorem State.setSlotState_charges (s : State) (k : SlotNo) (x : SlotState) :
    (s.setSlotState k x).charges = s.charges := rfl

@[simp] theorem State.setSlotState_presented (s : State) (k : SlotNo) (x : SlotState) :
    (s.setSlotState k x).presented = s.presented := rfl

@[simp] theorem State.setSlotState_heldLookups (s : State) (k : SlotNo) (x : SlotState) :
    (s.setSlotState k x).heldLookups = s.heldLookups := rfl

@[simp] theorem State.setSlotState_rotation (s : State) (k : SlotNo) (x : SlotState) :
    (s.setSlotState k x).rotation = s.rotation := rfl

@[simp] theorem State.setSlotState_lowPointer (s : State) (k : SlotNo) (x : SlotState) :
    (s.setSlotState k x).lowPointer = s.lowPointer := rfl

@[simp] theorem State.setSlotState_tenure (s : State) (k : SlotNo) (x : SlotState) : (s.setSlotState k x).tenure = s.tenure := rfl

@[simp] theorem State.setSlotState_sweep (s : State) (k : SlotNo) (x : SlotState) : (s.setSlotState k x).sweep = s.sweep := rfl

@[simp] theorem State.setSlotState_params (s : State) (k : SlotNo) (x : SlotState) : (s.setSlotState k x).params = s.params := rfl

@[simp] theorem State.setSlotState_result (s : State) (k : SlotNo) (x : SlotState) : (s.setSlotState k x).result = s.result := rfl

@[simp] theorem State.setSlotState_snapshot (s : State) (k : SlotNo) (x : SlotState) :
    (s.setSlotState k x).snapshot = s.snapshot := rfl

@[simp] theorem State.setSlotState_staging (s : State) (k : SlotNo) (x : SlotState) :
    (s.setSlotState k x).staging = s.staging := rfl

@[simp] theorem State.setSlotState_lock (s : State) (k : SlotNo) (x : SlotState) : (s.setSlotState k x).lock = s.lock := rfl

@[simp] theorem State.setSlotState_sources (s : State) (k : SlotNo) (x : SlotState) :
    (s.setSlotState k x).sources = s.sources := rfl

@[simp] theorem State.setSlotState_globalEnable (s : State) (k : SlotNo) (x : SlotState) :
    (s.setSlotState k x).globalEnable = s.globalEnable := rfl

@[simp] theorem State.setSlotState_elevate (s : State) (k : SlotNo) (x : SlotState) :
    (s.setSlotState k x).elevate = s.elevate := rfl

/-! ### `setCell` -/

@[simp] theorem State.setCell_pending (s : State) (c : CellNo) (x : WaitCell) : (s.setCell c x).pending = s.pending := rfl

@[simp] theorem State.setCell_resetHeld (s : State) (c : CellNo) (x : WaitCell) : (s.setCell c x).resetHeld = s.resetHeld := rfl

@[simp] theorem State.setCell_granule64 (s : State) (c : CellNo) (x : WaitCell) : (s.setCell c x).granule64 = s.granule64 := rfl

@[simp] theorem State.setCell_agentsCode (s : State) (c : CellNo) (x : WaitCell) :
    (s.setCell c x).agentsCode = s.agentsCode := rfl

@[simp] theorem State.setCell_attach (s : State) (c : CellNo) (x : WaitCell) : (s.setCell c x).attach = s.attach := rfl

@[simp] theorem State.setCell_req (s : State) (c : CellNo) (x : WaitCell) : (s.setCell c x).req = s.req := rfl

@[simp] theorem State.setCell_mack (s : State) (c : CellNo) (x : WaitCell) : (s.setCell c x).mack = s.mack := rfl

@[simp] theorem State.setCell_md (s : State) (c : CellNo) (x : WaitCell) : (s.setCell c x).md = s.md := rfl

@[simp] theorem State.setCell_lbData (s : State) (c : CellNo) (x : WaitCell) : (s.setCell c x).lbData = s.lbData := rfl

@[simp] theorem State.setCell_ckAnswer (s : State) (c : CellNo) (x : WaitCell) : (s.setCell c x).ckAnswer = s.ckAnswer := rfl

@[simp] theorem State.setCell_map (s : State) (c : CellNo) (x : WaitCell) : (s.setCell c x).map = s.map := rfl

@[simp] theorem State.setCell_unitCode (s : State) (c : CellNo) (x : WaitCell) : (s.setCell c x).unitCode = s.unitCode := rfl

@[simp] theorem State.setCell_frozen (s : State) (c : CellNo) (x : WaitCell) : (s.setCell c x).frozen = s.frozen := rfl

@[simp] theorem State.setCell_holdPeriod (s : State) (c : CellNo) (x : WaitCell) :
    (s.setCell c x).holdPeriod = s.holdPeriod := rfl

@[simp] theorem State.setCell_collectWindow (s : State) (c : CellNo) (x : WaitCell) :
    (s.setCell c x).collectWindow = s.collectWindow := rfl

@[simp] theorem State.setCell_yieldFlag (s : State) (c : CellNo) (x : WaitCell) : (s.setCell c x).yieldFlag = s.yieldFlag := rfl

@[simp] theorem State.setCell_slots (s : State) (c : CellNo) (x : WaitCell) : (s.setCell c x).slots = s.slots := rfl

@[simp] theorem State.setCell_order (s : State) (c : CellNo) (x : WaitCell) : (s.setCell c x).order = s.order := rfl

@[simp] theorem State.setCell_agents (s : State) (c : CellNo) (x : WaitCell) : (s.setCell c x).agents = s.agents := rfl

@[simp] theorem State.setCell_charges (s : State) (c : CellNo) (x : WaitCell) : (s.setCell c x).charges = s.charges := rfl

@[simp] theorem State.setCell_presented (s : State) (c : CellNo) (x : WaitCell) : (s.setCell c x).presented = s.presented := rfl

@[simp] theorem State.setCell_heldLookups (s : State) (c : CellNo) (x : WaitCell) :
    (s.setCell c x).heldLookups = s.heldLookups := rfl

@[simp] theorem State.setCell_rotation (s : State) (c : CellNo) (x : WaitCell) : (s.setCell c x).rotation = s.rotation := rfl

@[simp] theorem State.setCell_lowPointer (s : State) (c : CellNo) (x : WaitCell) :
    (s.setCell c x).lowPointer = s.lowPointer := rfl

@[simp] theorem State.setCell_tenure (s : State) (c : CellNo) (x : WaitCell) : (s.setCell c x).tenure = s.tenure := rfl

@[simp] theorem State.setCell_sweep (s : State) (c : CellNo) (x : WaitCell) : (s.setCell c x).sweep = s.sweep := rfl

@[simp] theorem State.setCell_params (s : State) (c : CellNo) (x : WaitCell) : (s.setCell c x).params = s.params := rfl

@[simp] theorem State.setCell_result (s : State) (c : CellNo) (x : WaitCell) : (s.setCell c x).result = s.result := rfl

@[simp] theorem State.setCell_snapshot (s : State) (c : CellNo) (x : WaitCell) : (s.setCell c x).snapshot = s.snapshot := rfl

@[simp] theorem State.setCell_staging (s : State) (c : CellNo) (x : WaitCell) : (s.setCell c x).staging = s.staging := rfl

@[simp] theorem State.setCell_lock (s : State) (c : CellNo) (x : WaitCell) : (s.setCell c x).lock = s.lock := rfl

@[simp] theorem State.setCell_sources (s : State) (c : CellNo) (x : WaitCell) : (s.setCell c x).sources = s.sources := rfl

@[simp] theorem State.setCell_globalEnable (s : State) (c : CellNo) (x : WaitCell) :
    (s.setCell c x).globalEnable = s.globalEnable := rfl

@[simp] theorem State.setCell_elevate (s : State) (c : CellNo) (x : WaitCell) : (s.setCell c x).elevate = s.elevate := rfl

/-! ### `setCellState` -/

@[simp] theorem State.setCellState_pending (s : State) (c : CellNo) (x : CellState) :
    (s.setCellState c x).pending = s.pending := rfl

@[simp] theorem State.setCellState_resetHeld (s : State) (c : CellNo) (x : CellState) :
    (s.setCellState c x).resetHeld = s.resetHeld := rfl

@[simp] theorem State.setCellState_granule64 (s : State) (c : CellNo) (x : CellState) :
    (s.setCellState c x).granule64 = s.granule64 := rfl

@[simp] theorem State.setCellState_agentsCode (s : State) (c : CellNo) (x : CellState) :
    (s.setCellState c x).agentsCode = s.agentsCode := rfl

@[simp] theorem State.setCellState_attach (s : State) (c : CellNo) (x : CellState) : (s.setCellState c x).attach = s.attach := rfl

@[simp] theorem State.setCellState_req (s : State) (c : CellNo) (x : CellState) : (s.setCellState c x).req = s.req := rfl

@[simp] theorem State.setCellState_mack (s : State) (c : CellNo) (x : CellState) : (s.setCellState c x).mack = s.mack := rfl

@[simp] theorem State.setCellState_md (s : State) (c : CellNo) (x : CellState) : (s.setCellState c x).md = s.md := rfl

@[simp] theorem State.setCellState_lbData (s : State) (c : CellNo) (x : CellState) : (s.setCellState c x).lbData = s.lbData := rfl

@[simp] theorem State.setCellState_ckAnswer (s : State) (c : CellNo) (x : CellState) :
    (s.setCellState c x).ckAnswer = s.ckAnswer := rfl

@[simp] theorem State.setCellState_map (s : State) (c : CellNo) (x : CellState) : (s.setCellState c x).map = s.map := rfl

@[simp] theorem State.setCellState_unitCode (s : State) (c : CellNo) (x : CellState) :
    (s.setCellState c x).unitCode = s.unitCode := rfl

@[simp] theorem State.setCellState_frozen (s : State) (c : CellNo) (x : CellState) : (s.setCellState c x).frozen = s.frozen := rfl

@[simp] theorem State.setCellState_holdPeriod (s : State) (c : CellNo) (x : CellState) :
    (s.setCellState c x).holdPeriod = s.holdPeriod := rfl

@[simp] theorem State.setCellState_collectWindow (s : State) (c : CellNo) (x : CellState) :
    (s.setCellState c x).collectWindow = s.collectWindow := rfl

@[simp] theorem State.setCellState_yieldFlag (s : State) (c : CellNo) (x : CellState) :
    (s.setCellState c x).yieldFlag = s.yieldFlag := rfl

@[simp] theorem State.setCellState_slots (s : State) (c : CellNo) (x : CellState) : (s.setCellState c x).slots = s.slots := rfl

@[simp] theorem State.setCellState_order (s : State) (c : CellNo) (x : CellState) : (s.setCellState c x).order = s.order := rfl

@[simp] theorem State.setCellState_agents (s : State) (c : CellNo) (x : CellState) : (s.setCellState c x).agents = s.agents := rfl

@[simp] theorem State.setCellState_charges (s : State) (c : CellNo) (x : CellState) :
    (s.setCellState c x).charges = s.charges := rfl

@[simp] theorem State.setCellState_presented (s : State) (c : CellNo) (x : CellState) :
    (s.setCellState c x).presented = s.presented := rfl

@[simp] theorem State.setCellState_heldLookups (s : State) (c : CellNo) (x : CellState) :
    (s.setCellState c x).heldLookups = s.heldLookups := rfl

@[simp] theorem State.setCellState_rotation (s : State) (c : CellNo) (x : CellState) :
    (s.setCellState c x).rotation = s.rotation := rfl

@[simp] theorem State.setCellState_lowPointer (s : State) (c : CellNo) (x : CellState) :
    (s.setCellState c x).lowPointer = s.lowPointer := rfl

@[simp] theorem State.setCellState_tenure (s : State) (c : CellNo) (x : CellState) : (s.setCellState c x).tenure = s.tenure := rfl

@[simp] theorem State.setCellState_sweep (s : State) (c : CellNo) (x : CellState) : (s.setCellState c x).sweep = s.sweep := rfl

@[simp] theorem State.setCellState_params (s : State) (c : CellNo) (x : CellState) : (s.setCellState c x).params = s.params := rfl

@[simp] theorem State.setCellState_result (s : State) (c : CellNo) (x : CellState) : (s.setCellState c x).result = s.result := rfl

@[simp] theorem State.setCellState_snapshot (s : State) (c : CellNo) (x : CellState) :
    (s.setCellState c x).snapshot = s.snapshot := rfl

@[simp] theorem State.setCellState_staging (s : State) (c : CellNo) (x : CellState) :
    (s.setCellState c x).staging = s.staging := rfl

@[simp] theorem State.setCellState_lock (s : State) (c : CellNo) (x : CellState) : (s.setCellState c x).lock = s.lock := rfl

@[simp] theorem State.setCellState_sources (s : State) (c : CellNo) (x : CellState) :
    (s.setCellState c x).sources = s.sources := rfl

@[simp] theorem State.setCellState_globalEnable (s : State) (c : CellNo) (x : CellState) :
    (s.setCellState c x).globalEnable = s.globalEnable := rfl

@[simp] theorem State.setCellState_elevate (s : State) (c : CellNo) (x : CellState) :
    (s.setCellState c x).elevate = s.elevate := rfl

/-! ### `setAgent` -/

@[simp] theorem State.setAgent_pending (s : State) (a : AgentNo) (x : AgentRecord) : (s.setAgent a x).pending = s.pending := rfl

@[simp] theorem State.setAgent_resetHeld (s : State) (a : AgentNo) (x : AgentRecord) :
    (s.setAgent a x).resetHeld = s.resetHeld := rfl

@[simp] theorem State.setAgent_granule64 (s : State) (a : AgentNo) (x : AgentRecord) :
    (s.setAgent a x).granule64 = s.granule64 := rfl

@[simp] theorem State.setAgent_agentsCode (s : State) (a : AgentNo) (x : AgentRecord) :
    (s.setAgent a x).agentsCode = s.agentsCode := rfl

@[simp] theorem State.setAgent_attach (s : State) (a : AgentNo) (x : AgentRecord) : (s.setAgent a x).attach = s.attach := rfl

@[simp] theorem State.setAgent_req (s : State) (a : AgentNo) (x : AgentRecord) : (s.setAgent a x).req = s.req := rfl

@[simp] theorem State.setAgent_mack (s : State) (a : AgentNo) (x : AgentRecord) : (s.setAgent a x).mack = s.mack := rfl

@[simp] theorem State.setAgent_md (s : State) (a : AgentNo) (x : AgentRecord) : (s.setAgent a x).md = s.md := rfl

@[simp] theorem State.setAgent_lbData (s : State) (a : AgentNo) (x : AgentRecord) : (s.setAgent a x).lbData = s.lbData := rfl

@[simp] theorem State.setAgent_ckAnswer (s : State) (a : AgentNo) (x : AgentRecord) :
    (s.setAgent a x).ckAnswer = s.ckAnswer := rfl

@[simp] theorem State.setAgent_map (s : State) (a : AgentNo) (x : AgentRecord) : (s.setAgent a x).map = s.map := rfl

@[simp] theorem State.setAgent_unitCode (s : State) (a : AgentNo) (x : AgentRecord) :
    (s.setAgent a x).unitCode = s.unitCode := rfl

@[simp] theorem State.setAgent_frozen (s : State) (a : AgentNo) (x : AgentRecord) : (s.setAgent a x).frozen = s.frozen := rfl

@[simp] theorem State.setAgent_holdPeriod (s : State) (a : AgentNo) (x : AgentRecord) :
    (s.setAgent a x).holdPeriod = s.holdPeriod := rfl

@[simp] theorem State.setAgent_collectWindow (s : State) (a : AgentNo) (x : AgentRecord) :
    (s.setAgent a x).collectWindow = s.collectWindow := rfl

@[simp] theorem State.setAgent_yieldFlag (s : State) (a : AgentNo) (x : AgentRecord) :
    (s.setAgent a x).yieldFlag = s.yieldFlag := rfl

@[simp] theorem State.setAgent_slots (s : State) (a : AgentNo) (x : AgentRecord) : (s.setAgent a x).slots = s.slots := rfl

@[simp] theorem State.setAgent_cells (s : State) (a : AgentNo) (x : AgentRecord) : (s.setAgent a x).cells = s.cells := rfl

@[simp] theorem State.setAgent_order (s : State) (a : AgentNo) (x : AgentRecord) : (s.setAgent a x).order = s.order := rfl

@[simp] theorem State.setAgent_charges (s : State) (a : AgentNo) (x : AgentRecord) : (s.setAgent a x).charges = s.charges := rfl

@[simp] theorem State.setAgent_presented (s : State) (a : AgentNo) (x : AgentRecord) :
    (s.setAgent a x).presented = s.presented := rfl

@[simp] theorem State.setAgent_heldLookups (s : State) (a : AgentNo) (x : AgentRecord) :
    (s.setAgent a x).heldLookups = s.heldLookups := rfl

@[simp] theorem State.setAgent_rotation (s : State) (a : AgentNo) (x : AgentRecord) :
    (s.setAgent a x).rotation = s.rotation := rfl

@[simp] theorem State.setAgent_lowPointer (s : State) (a : AgentNo) (x : AgentRecord) :
    (s.setAgent a x).lowPointer = s.lowPointer := rfl

@[simp] theorem State.setAgent_tenure (s : State) (a : AgentNo) (x : AgentRecord) : (s.setAgent a x).tenure = s.tenure := rfl

@[simp] theorem State.setAgent_sweep (s : State) (a : AgentNo) (x : AgentRecord) : (s.setAgent a x).sweep = s.sweep := rfl

@[simp] theorem State.setAgent_params (s : State) (a : AgentNo) (x : AgentRecord) : (s.setAgent a x).params = s.params := rfl

@[simp] theorem State.setAgent_result (s : State) (a : AgentNo) (x : AgentRecord) : (s.setAgent a x).result = s.result := rfl

@[simp] theorem State.setAgent_snapshot (s : State) (a : AgentNo) (x : AgentRecord) :
    (s.setAgent a x).snapshot = s.snapshot := rfl

@[simp] theorem State.setAgent_staging (s : State) (a : AgentNo) (x : AgentRecord) : (s.setAgent a x).staging = s.staging := rfl

@[simp] theorem State.setAgent_lock (s : State) (a : AgentNo) (x : AgentRecord) : (s.setAgent a x).lock = s.lock := rfl

@[simp] theorem State.setAgent_sources (s : State) (a : AgentNo) (x : AgentRecord) : (s.setAgent a x).sources = s.sources := rfl

@[simp] theorem State.setAgent_globalEnable (s : State) (a : AgentNo) (x : AgentRecord) :
    (s.setAgent a x).globalEnable = s.globalEnable := rfl

@[simp] theorem State.setAgent_elevate (s : State) (a : AgentNo) (x : AgentRecord) : (s.setAgent a x).elevate = s.elevate := rfl

/-! ### `raise` -/

@[simp] theorem State.raise_pending (s : State) (x : Source) (d : Nat) : (s.raise x d).pending = s.pending := rfl

@[simp] theorem State.raise_resetHeld (s : State) (x : Source) (d : Nat) : (s.raise x d).resetHeld = s.resetHeld := rfl

@[simp] theorem State.raise_granule64 (s : State) (x : Source) (d : Nat) : (s.raise x d).granule64 = s.granule64 := rfl

@[simp] theorem State.raise_agentsCode (s : State) (x : Source) (d : Nat) : (s.raise x d).agentsCode = s.agentsCode := rfl

@[simp] theorem State.raise_attach (s : State) (x : Source) (d : Nat) : (s.raise x d).attach = s.attach := rfl

@[simp] theorem State.raise_req (s : State) (x : Source) (d : Nat) : (s.raise x d).req = s.req := rfl

@[simp] theorem State.raise_mack (s : State) (x : Source) (d : Nat) : (s.raise x d).mack = s.mack := rfl

@[simp] theorem State.raise_md (s : State) (x : Source) (d : Nat) : (s.raise x d).md = s.md := rfl

@[simp] theorem State.raise_lbData (s : State) (x : Source) (d : Nat) : (s.raise x d).lbData = s.lbData := rfl

@[simp] theorem State.raise_ckAnswer (s : State) (x : Source) (d : Nat) : (s.raise x d).ckAnswer = s.ckAnswer := rfl

@[simp] theorem State.raise_map (s : State) (x : Source) (d : Nat) : (s.raise x d).map = s.map := rfl

@[simp] theorem State.raise_unitCode (s : State) (x : Source) (d : Nat) : (s.raise x d).unitCode = s.unitCode := rfl

@[simp] theorem State.raise_frozen (s : State) (x : Source) (d : Nat) : (s.raise x d).frozen = s.frozen := rfl

@[simp] theorem State.raise_holdPeriod (s : State) (x : Source) (d : Nat) : (s.raise x d).holdPeriod = s.holdPeriod := rfl

@[simp] theorem State.raise_collectWindow (s : State) (x : Source) (d : Nat) :
    (s.raise x d).collectWindow = s.collectWindow := rfl

@[simp] theorem State.raise_yieldFlag (s : State) (x : Source) (d : Nat) : (s.raise x d).yieldFlag = s.yieldFlag := rfl

@[simp] theorem State.raise_slots (s : State) (x : Source) (d : Nat) : (s.raise x d).slots = s.slots := rfl

@[simp] theorem State.raise_cells (s : State) (x : Source) (d : Nat) : (s.raise x d).cells = s.cells := rfl

@[simp] theorem State.raise_order (s : State) (x : Source) (d : Nat) : (s.raise x d).order = s.order := rfl

@[simp] theorem State.raise_agents (s : State) (x : Source) (d : Nat) : (s.raise x d).agents = s.agents := rfl

@[simp] theorem State.raise_charges (s : State) (x : Source) (d : Nat) : (s.raise x d).charges = s.charges := rfl

@[simp] theorem State.raise_presented (s : State) (x : Source) (d : Nat) : (s.raise x d).presented = s.presented := rfl

@[simp] theorem State.raise_heldLookups (s : State) (x : Source) (d : Nat) : (s.raise x d).heldLookups = s.heldLookups := rfl

@[simp] theorem State.raise_rotation (s : State) (x : Source) (d : Nat) : (s.raise x d).rotation = s.rotation := rfl

@[simp] theorem State.raise_lowPointer (s : State) (x : Source) (d : Nat) : (s.raise x d).lowPointer = s.lowPointer := rfl

@[simp] theorem State.raise_tenure (s : State) (x : Source) (d : Nat) : (s.raise x d).tenure = s.tenure := rfl

@[simp] theorem State.raise_sweep (s : State) (x : Source) (d : Nat) : (s.raise x d).sweep = s.sweep := rfl

@[simp] theorem State.raise_params (s : State) (x : Source) (d : Nat) : (s.raise x d).params = s.params := rfl

@[simp] theorem State.raise_result (s : State) (x : Source) (d : Nat) : (s.raise x d).result = s.result := rfl

@[simp] theorem State.raise_snapshot (s : State) (x : Source) (d : Nat) : (s.raise x d).snapshot = s.snapshot := rfl

@[simp] theorem State.raise_staging (s : State) (x : Source) (d : Nat) : (s.raise x d).staging = s.staging := rfl

@[simp] theorem State.raise_lock (s : State) (x : Source) (d : Nat) : (s.raise x d).lock = s.lock := rfl

@[simp] theorem State.raise_globalEnable (s : State) (x : Source) (d : Nat) : (s.raise x d).globalEnable = s.globalEnable := rfl

@[simp] theorem State.raise_elevate (s : State) (x : Source) (d : Nat) : (s.raise x d).elevate = s.elevate := rfl

/-! ### `freeSlot` -/

@[simp] theorem State.freeSlot_pending (s : State) (k : SlotNo) : (s.freeSlot k).pending = s.pending := rfl

@[simp] theorem State.freeSlot_resetHeld (s : State) (k : SlotNo) : (s.freeSlot k).resetHeld = s.resetHeld := rfl

@[simp] theorem State.freeSlot_granule64 (s : State) (k : SlotNo) : (s.freeSlot k).granule64 = s.granule64 := rfl

@[simp] theorem State.freeSlot_agentsCode (s : State) (k : SlotNo) : (s.freeSlot k).agentsCode = s.agentsCode := rfl

@[simp] theorem State.freeSlot_attach (s : State) (k : SlotNo) : (s.freeSlot k).attach = s.attach := rfl

@[simp] theorem State.freeSlot_req (s : State) (k : SlotNo) : (s.freeSlot k).req = s.req := rfl

@[simp] theorem State.freeSlot_mack (s : State) (k : SlotNo) : (s.freeSlot k).mack = s.mack := rfl

@[simp] theorem State.freeSlot_md (s : State) (k : SlotNo) : (s.freeSlot k).md = s.md := rfl

@[simp] theorem State.freeSlot_lbData (s : State) (k : SlotNo) : (s.freeSlot k).lbData = s.lbData := rfl

@[simp] theorem State.freeSlot_ckAnswer (s : State) (k : SlotNo) : (s.freeSlot k).ckAnswer = s.ckAnswer := rfl

@[simp] theorem State.freeSlot_map (s : State) (k : SlotNo) : (s.freeSlot k).map = s.map := rfl

@[simp] theorem State.freeSlot_unitCode (s : State) (k : SlotNo) : (s.freeSlot k).unitCode = s.unitCode := rfl

@[simp] theorem State.freeSlot_frozen (s : State) (k : SlotNo) : (s.freeSlot k).frozen = s.frozen := rfl

@[simp] theorem State.freeSlot_holdPeriod (s : State) (k : SlotNo) : (s.freeSlot k).holdPeriod = s.holdPeriod := rfl

@[simp] theorem State.freeSlot_collectWindow (s : State) (k : SlotNo) : (s.freeSlot k).collectWindow = s.collectWindow := rfl

@[simp] theorem State.freeSlot_yieldFlag (s : State) (k : SlotNo) : (s.freeSlot k).yieldFlag = s.yieldFlag := rfl

@[simp] theorem State.freeSlot_cells (s : State) (k : SlotNo) : (s.freeSlot k).cells = s.cells := rfl

@[simp] theorem State.freeSlot_order (s : State) (k : SlotNo) : (s.freeSlot k).order = s.order := rfl

@[simp] theorem State.freeSlot_agents (s : State) (k : SlotNo) : (s.freeSlot k).agents = s.agents := rfl

@[simp] theorem State.freeSlot_charges (s : State) (k : SlotNo) : (s.freeSlot k).charges = s.charges := rfl

@[simp] theorem State.freeSlot_presented (s : State) (k : SlotNo) : (s.freeSlot k).presented = s.presented := rfl

@[simp] theorem State.freeSlot_heldLookups (s : State) (k : SlotNo) : (s.freeSlot k).heldLookups = s.heldLookups := rfl

@[simp] theorem State.freeSlot_rotation (s : State) (k : SlotNo) : (s.freeSlot k).rotation = s.rotation := rfl

@[simp] theorem State.freeSlot_lowPointer (s : State) (k : SlotNo) : (s.freeSlot k).lowPointer = s.lowPointer := rfl

@[simp] theorem State.freeSlot_tenure (s : State) (k : SlotNo) : (s.freeSlot k).tenure = s.tenure := rfl

@[simp] theorem State.freeSlot_sweep (s : State) (k : SlotNo) : (s.freeSlot k).sweep = s.sweep := rfl

@[simp] theorem State.freeSlot_params (s : State) (k : SlotNo) : (s.freeSlot k).params = s.params := rfl

@[simp] theorem State.freeSlot_result (s : State) (k : SlotNo) : (s.freeSlot k).result = s.result := rfl

@[simp] theorem State.freeSlot_snapshot (s : State) (k : SlotNo) : (s.freeSlot k).snapshot = s.snapshot := rfl

@[simp] theorem State.freeSlot_staging (s : State) (k : SlotNo) : (s.freeSlot k).staging = s.staging := rfl

@[simp] theorem State.freeSlot_lock (s : State) (k : SlotNo) : (s.freeSlot k).lock = s.lock := rfl

@[simp] theorem State.freeSlot_sources (s : State) (k : SlotNo) : (s.freeSlot k).sources = s.sources := rfl

@[simp] theorem State.freeSlot_globalEnable (s : State) (k : SlotNo) : (s.freeSlot k).globalEnable = s.globalEnable := rfl

@[simp] theorem State.freeSlot_elevate (s : State) (k : SlotNo) : (s.freeSlot k).elevate = s.elevate := rfl

/-! ### `freeSlotsWhere` -/

@[simp] theorem State.freeSlotsWhere_pending (s : State) (p : SlotState → Bool) : (s.freeSlotsWhere p).pending = s.pending := rfl

@[simp] theorem State.freeSlotsWhere_resetHeld (s : State) (p : SlotState → Bool) :
    (s.freeSlotsWhere p).resetHeld = s.resetHeld := rfl

@[simp] theorem State.freeSlotsWhere_granule64 (s : State) (p : SlotState → Bool) :
    (s.freeSlotsWhere p).granule64 = s.granule64 := rfl

@[simp] theorem State.freeSlotsWhere_agentsCode (s : State) (p : SlotState → Bool) :
    (s.freeSlotsWhere p).agentsCode = s.agentsCode := rfl

@[simp] theorem State.freeSlotsWhere_attach (s : State) (p : SlotState → Bool) : (s.freeSlotsWhere p).attach = s.attach := rfl

@[simp] theorem State.freeSlotsWhere_req (s : State) (p : SlotState → Bool) : (s.freeSlotsWhere p).req = s.req := rfl

@[simp] theorem State.freeSlotsWhere_mack (s : State) (p : SlotState → Bool) : (s.freeSlotsWhere p).mack = s.mack := rfl

@[simp] theorem State.freeSlotsWhere_md (s : State) (p : SlotState → Bool) : (s.freeSlotsWhere p).md = s.md := rfl

@[simp] theorem State.freeSlotsWhere_lbData (s : State) (p : SlotState → Bool) : (s.freeSlotsWhere p).lbData = s.lbData := rfl

@[simp] theorem State.freeSlotsWhere_ckAnswer (s : State) (p : SlotState → Bool) :
    (s.freeSlotsWhere p).ckAnswer = s.ckAnswer := rfl

@[simp] theorem State.freeSlotsWhere_map (s : State) (p : SlotState → Bool) : (s.freeSlotsWhere p).map = s.map := rfl

@[simp] theorem State.freeSlotsWhere_unitCode (s : State) (p : SlotState → Bool) :
    (s.freeSlotsWhere p).unitCode = s.unitCode := rfl

@[simp] theorem State.freeSlotsWhere_frozen (s : State) (p : SlotState → Bool) : (s.freeSlotsWhere p).frozen = s.frozen := rfl

@[simp] theorem State.freeSlotsWhere_holdPeriod (s : State) (p : SlotState → Bool) :
    (s.freeSlotsWhere p).holdPeriod = s.holdPeriod := rfl

@[simp] theorem State.freeSlotsWhere_collectWindow (s : State) (p : SlotState → Bool) :
    (s.freeSlotsWhere p).collectWindow = s.collectWindow := rfl

@[simp] theorem State.freeSlotsWhere_yieldFlag (s : State) (p : SlotState → Bool) :
    (s.freeSlotsWhere p).yieldFlag = s.yieldFlag := rfl

@[simp] theorem State.freeSlotsWhere_cells (s : State) (p : SlotState → Bool) : (s.freeSlotsWhere p).cells = s.cells := rfl

@[simp] theorem State.freeSlotsWhere_order (s : State) (p : SlotState → Bool) : (s.freeSlotsWhere p).order = s.order := rfl

@[simp] theorem State.freeSlotsWhere_agents (s : State) (p : SlotState → Bool) : (s.freeSlotsWhere p).agents = s.agents := rfl

@[simp] theorem State.freeSlotsWhere_charges (s : State) (p : SlotState → Bool) : (s.freeSlotsWhere p).charges = s.charges := rfl

@[simp] theorem State.freeSlotsWhere_presented (s : State) (p : SlotState → Bool) :
    (s.freeSlotsWhere p).presented = s.presented := rfl

@[simp] theorem State.freeSlotsWhere_heldLookups (s : State) (p : SlotState → Bool) :
    (s.freeSlotsWhere p).heldLookups = s.heldLookups := rfl

@[simp] theorem State.freeSlotsWhere_rotation (s : State) (p : SlotState → Bool) :
    (s.freeSlotsWhere p).rotation = s.rotation := rfl

@[simp] theorem State.freeSlotsWhere_lowPointer (s : State) (p : SlotState → Bool) :
    (s.freeSlotsWhere p).lowPointer = s.lowPointer := rfl

@[simp] theorem State.freeSlotsWhere_tenure (s : State) (p : SlotState → Bool) : (s.freeSlotsWhere p).tenure = s.tenure := rfl

@[simp] theorem State.freeSlotsWhere_sweep (s : State) (p : SlotState → Bool) : (s.freeSlotsWhere p).sweep = s.sweep := rfl

@[simp] theorem State.freeSlotsWhere_params (s : State) (p : SlotState → Bool) : (s.freeSlotsWhere p).params = s.params := rfl

@[simp] theorem State.freeSlotsWhere_result (s : State) (p : SlotState → Bool) : (s.freeSlotsWhere p).result = s.result := rfl

@[simp] theorem State.freeSlotsWhere_snapshot (s : State) (p : SlotState → Bool) :
    (s.freeSlotsWhere p).snapshot = s.snapshot := rfl

@[simp] theorem State.freeSlotsWhere_staging (s : State) (p : SlotState → Bool) : (s.freeSlotsWhere p).staging = s.staging := rfl

@[simp] theorem State.freeSlotsWhere_lock (s : State) (p : SlotState → Bool) : (s.freeSlotsWhere p).lock = s.lock := rfl

@[simp] theorem State.freeSlotsWhere_sources (s : State) (p : SlotState → Bool) : (s.freeSlotsWhere p).sources = s.sources := rfl

@[simp] theorem State.freeSlotsWhere_globalEnable (s : State) (p : SlotState → Bool) :
    (s.freeSlotsWhere p).globalEnable = s.globalEnable := rfl

@[simp] theorem State.freeSlotsWhere_elevate (s : State) (p : SlotState → Bool) : (s.freeSlotsWhere p).elevate = s.elevate := rfl

/-! ### `emptyCell` -/

@[simp] theorem State.emptyCell_pending (s : State) (c : CellNo) : (s.emptyCell c).pending = s.pending := rfl

@[simp] theorem State.emptyCell_resetHeld (s : State) (c : CellNo) : (s.emptyCell c).resetHeld = s.resetHeld := rfl

@[simp] theorem State.emptyCell_granule64 (s : State) (c : CellNo) : (s.emptyCell c).granule64 = s.granule64 := rfl

@[simp] theorem State.emptyCell_agentsCode (s : State) (c : CellNo) : (s.emptyCell c).agentsCode = s.agentsCode := rfl

@[simp] theorem State.emptyCell_attach (s : State) (c : CellNo) : (s.emptyCell c).attach = s.attach := rfl

@[simp] theorem State.emptyCell_req (s : State) (c : CellNo) : (s.emptyCell c).req = s.req := rfl

@[simp] theorem State.emptyCell_mack (s : State) (c : CellNo) : (s.emptyCell c).mack = s.mack := rfl

@[simp] theorem State.emptyCell_md (s : State) (c : CellNo) : (s.emptyCell c).md = s.md := rfl

@[simp] theorem State.emptyCell_lbData (s : State) (c : CellNo) : (s.emptyCell c).lbData = s.lbData := rfl

@[simp] theorem State.emptyCell_ckAnswer (s : State) (c : CellNo) : (s.emptyCell c).ckAnswer = s.ckAnswer := rfl

@[simp] theorem State.emptyCell_map (s : State) (c : CellNo) : (s.emptyCell c).map = s.map := rfl

@[simp] theorem State.emptyCell_unitCode (s : State) (c : CellNo) : (s.emptyCell c).unitCode = s.unitCode := rfl

@[simp] theorem State.emptyCell_frozen (s : State) (c : CellNo) : (s.emptyCell c).frozen = s.frozen := rfl

@[simp] theorem State.emptyCell_holdPeriod (s : State) (c : CellNo) : (s.emptyCell c).holdPeriod = s.holdPeriod := rfl

@[simp] theorem State.emptyCell_collectWindow (s : State) (c : CellNo) : (s.emptyCell c).collectWindow = s.collectWindow := rfl

@[simp] theorem State.emptyCell_yieldFlag (s : State) (c : CellNo) : (s.emptyCell c).yieldFlag = s.yieldFlag := rfl

@[simp] theorem State.emptyCell_slots (s : State) (c : CellNo) : (s.emptyCell c).slots = s.slots := rfl

@[simp] theorem State.emptyCell_agents (s : State) (c : CellNo) : (s.emptyCell c).agents = s.agents := rfl

@[simp] theorem State.emptyCell_charges (s : State) (c : CellNo) : (s.emptyCell c).charges = s.charges := rfl

@[simp] theorem State.emptyCell_presented (s : State) (c : CellNo) : (s.emptyCell c).presented = s.presented := rfl

@[simp] theorem State.emptyCell_heldLookups (s : State) (c : CellNo) : (s.emptyCell c).heldLookups = s.heldLookups := rfl

@[simp] theorem State.emptyCell_rotation (s : State) (c : CellNo) : (s.emptyCell c).rotation = s.rotation := rfl

@[simp] theorem State.emptyCell_lowPointer (s : State) (c : CellNo) : (s.emptyCell c).lowPointer = s.lowPointer := rfl

@[simp] theorem State.emptyCell_tenure (s : State) (c : CellNo) : (s.emptyCell c).tenure = s.tenure := rfl

@[simp] theorem State.emptyCell_sweep (s : State) (c : CellNo) : (s.emptyCell c).sweep = s.sweep := rfl

@[simp] theorem State.emptyCell_params (s : State) (c : CellNo) : (s.emptyCell c).params = s.params := rfl

@[simp] theorem State.emptyCell_result (s : State) (c : CellNo) : (s.emptyCell c).result = s.result := rfl

@[simp] theorem State.emptyCell_snapshot (s : State) (c : CellNo) : (s.emptyCell c).snapshot = s.snapshot := rfl

@[simp] theorem State.emptyCell_staging (s : State) (c : CellNo) : (s.emptyCell c).staging = s.staging := rfl

@[simp] theorem State.emptyCell_lock (s : State) (c : CellNo) : (s.emptyCell c).lock = s.lock := rfl

@[simp] theorem State.emptyCell_sources (s : State) (c : CellNo) : (s.emptyCell c).sources = s.sources := rfl

@[simp] theorem State.emptyCell_globalEnable (s : State) (c : CellNo) : (s.emptyCell c).globalEnable = s.globalEnable := rfl

@[simp] theorem State.emptyCell_elevate (s : State) (c : CellNo) : (s.emptyCell c).elevate = s.elevate := rfl

/-! ### `emptyCellsWhere` -/

@[simp] theorem State.emptyCellsWhere_pending (s : State) (p : CellState → Bool) :
    (s.emptyCellsWhere p).pending = s.pending := rfl

@[simp] theorem State.emptyCellsWhere_resetHeld (s : State) (p : CellState → Bool) :
    (s.emptyCellsWhere p).resetHeld = s.resetHeld := rfl

@[simp] theorem State.emptyCellsWhere_granule64 (s : State) (p : CellState → Bool) :
    (s.emptyCellsWhere p).granule64 = s.granule64 := rfl

@[simp] theorem State.emptyCellsWhere_agentsCode (s : State) (p : CellState → Bool) :
    (s.emptyCellsWhere p).agentsCode = s.agentsCode := rfl

@[simp] theorem State.emptyCellsWhere_attach (s : State) (p : CellState → Bool) : (s.emptyCellsWhere p).attach = s.attach := rfl

@[simp] theorem State.emptyCellsWhere_req (s : State) (p : CellState → Bool) : (s.emptyCellsWhere p).req = s.req := rfl

@[simp] theorem State.emptyCellsWhere_mack (s : State) (p : CellState → Bool) : (s.emptyCellsWhere p).mack = s.mack := rfl

@[simp] theorem State.emptyCellsWhere_md (s : State) (p : CellState → Bool) : (s.emptyCellsWhere p).md = s.md := rfl

@[simp] theorem State.emptyCellsWhere_lbData (s : State) (p : CellState → Bool) : (s.emptyCellsWhere p).lbData = s.lbData := rfl

@[simp] theorem State.emptyCellsWhere_ckAnswer (s : State) (p : CellState → Bool) :
    (s.emptyCellsWhere p).ckAnswer = s.ckAnswer := rfl

@[simp] theorem State.emptyCellsWhere_map (s : State) (p : CellState → Bool) : (s.emptyCellsWhere p).map = s.map := rfl

@[simp] theorem State.emptyCellsWhere_unitCode (s : State) (p : CellState → Bool) :
    (s.emptyCellsWhere p).unitCode = s.unitCode := rfl

@[simp] theorem State.emptyCellsWhere_frozen (s : State) (p : CellState → Bool) : (s.emptyCellsWhere p).frozen = s.frozen := rfl

@[simp] theorem State.emptyCellsWhere_holdPeriod (s : State) (p : CellState → Bool) :
    (s.emptyCellsWhere p).holdPeriod = s.holdPeriod := rfl

@[simp] theorem State.emptyCellsWhere_collectWindow (s : State) (p : CellState → Bool) :
    (s.emptyCellsWhere p).collectWindow = s.collectWindow := rfl

@[simp] theorem State.emptyCellsWhere_yieldFlag (s : State) (p : CellState → Bool) :
    (s.emptyCellsWhere p).yieldFlag = s.yieldFlag := rfl

@[simp] theorem State.emptyCellsWhere_slots (s : State) (p : CellState → Bool) : (s.emptyCellsWhere p).slots = s.slots := rfl

@[simp] theorem State.emptyCellsWhere_agents (s : State) (p : CellState → Bool) : (s.emptyCellsWhere p).agents = s.agents := rfl

@[simp] theorem State.emptyCellsWhere_charges (s : State) (p : CellState → Bool) :
    (s.emptyCellsWhere p).charges = s.charges := rfl

@[simp] theorem State.emptyCellsWhere_presented (s : State) (p : CellState → Bool) :
    (s.emptyCellsWhere p).presented = s.presented := rfl

@[simp] theorem State.emptyCellsWhere_heldLookups (s : State) (p : CellState → Bool) :
    (s.emptyCellsWhere p).heldLookups = s.heldLookups := rfl

@[simp] theorem State.emptyCellsWhere_rotation (s : State) (p : CellState → Bool) :
    (s.emptyCellsWhere p).rotation = s.rotation := rfl

@[simp] theorem State.emptyCellsWhere_lowPointer (s : State) (p : CellState → Bool) :
    (s.emptyCellsWhere p).lowPointer = s.lowPointer := rfl

@[simp] theorem State.emptyCellsWhere_tenure (s : State) (p : CellState → Bool) : (s.emptyCellsWhere p).tenure = s.tenure := rfl

@[simp] theorem State.emptyCellsWhere_sweep (s : State) (p : CellState → Bool) : (s.emptyCellsWhere p).sweep = s.sweep := rfl

@[simp] theorem State.emptyCellsWhere_params (s : State) (p : CellState → Bool) : (s.emptyCellsWhere p).params = s.params := rfl

@[simp] theorem State.emptyCellsWhere_result (s : State) (p : CellState → Bool) : (s.emptyCellsWhere p).result = s.result := rfl

@[simp] theorem State.emptyCellsWhere_snapshot (s : State) (p : CellState → Bool) :
    (s.emptyCellsWhere p).snapshot = s.snapshot := rfl

@[simp] theorem State.emptyCellsWhere_staging (s : State) (p : CellState → Bool) :
    (s.emptyCellsWhere p).staging = s.staging := rfl

@[simp] theorem State.emptyCellsWhere_lock (s : State) (p : CellState → Bool) : (s.emptyCellsWhere p).lock = s.lock := rfl

@[simp] theorem State.emptyCellsWhere_sources (s : State) (p : CellState → Bool) :
    (s.emptyCellsWhere p).sources = s.sources := rfl

@[simp] theorem State.emptyCellsWhere_globalEnable (s : State) (p : CellState → Bool) :
    (s.emptyCellsWhere p).globalEnable = s.globalEnable := rfl

@[simp] theorem State.emptyCellsWhere_elevate (s : State) (p : CellState → Bool) :
    (s.emptyCellsWhere p).elevate = s.elevate := rfl

/-! ### `readyWhere` -/

@[simp] theorem State.readyWhere_pending (s : State) (p : WaitEntry → Bool) (o : Ending) :
    (s.readyWhere p o).pending = s.pending := rfl

@[simp] theorem State.readyWhere_resetHeld (s : State) (p : WaitEntry → Bool) (o : Ending) :
    (s.readyWhere p o).resetHeld = s.resetHeld := rfl

@[simp] theorem State.readyWhere_granule64 (s : State) (p : WaitEntry → Bool) (o : Ending) :
    (s.readyWhere p o).granule64 = s.granule64 := rfl

@[simp] theorem State.readyWhere_agentsCode (s : State) (p : WaitEntry → Bool) (o : Ending) :
    (s.readyWhere p o).agentsCode = s.agentsCode := rfl

@[simp] theorem State.readyWhere_attach (s : State) (p : WaitEntry → Bool) (o : Ending) :
    (s.readyWhere p o).attach = s.attach := rfl

@[simp] theorem State.readyWhere_req (s : State) (p : WaitEntry → Bool) (o : Ending) : (s.readyWhere p o).req = s.req := rfl

@[simp] theorem State.readyWhere_mack (s : State) (p : WaitEntry → Bool) (o : Ending) : (s.readyWhere p o).mack = s.mack := rfl

@[simp] theorem State.readyWhere_md (s : State) (p : WaitEntry → Bool) (o : Ending) : (s.readyWhere p o).md = s.md := rfl

@[simp] theorem State.readyWhere_lbData (s : State) (p : WaitEntry → Bool) (o : Ending) :
    (s.readyWhere p o).lbData = s.lbData := rfl

@[simp] theorem State.readyWhere_ckAnswer (s : State) (p : WaitEntry → Bool) (o : Ending) :
    (s.readyWhere p o).ckAnswer = s.ckAnswer := rfl

@[simp] theorem State.readyWhere_map (s : State) (p : WaitEntry → Bool) (o : Ending) : (s.readyWhere p o).map = s.map := rfl

@[simp] theorem State.readyWhere_unitCode (s : State) (p : WaitEntry → Bool) (o : Ending) :
    (s.readyWhere p o).unitCode = s.unitCode := rfl

@[simp] theorem State.readyWhere_frozen (s : State) (p : WaitEntry → Bool) (o : Ending) :
    (s.readyWhere p o).frozen = s.frozen := rfl

@[simp] theorem State.readyWhere_holdPeriod (s : State) (p : WaitEntry → Bool) (o : Ending) :
    (s.readyWhere p o).holdPeriod = s.holdPeriod := rfl

@[simp] theorem State.readyWhere_collectWindow (s : State) (p : WaitEntry → Bool) (o : Ending) :
    (s.readyWhere p o).collectWindow = s.collectWindow := rfl

@[simp] theorem State.readyWhere_yieldFlag (s : State) (p : WaitEntry → Bool) (o : Ending) :
    (s.readyWhere p o).yieldFlag = s.yieldFlag := rfl

@[simp] theorem State.readyWhere_slots (s : State) (p : WaitEntry → Bool) (o : Ending) : (s.readyWhere p o).slots = s.slots := rfl

@[simp] theorem State.readyWhere_order (s : State) (p : WaitEntry → Bool) (o : Ending) : (s.readyWhere p o).order = s.order := rfl

@[simp] theorem State.readyWhere_agents (s : State) (p : WaitEntry → Bool) (o : Ending) :
    (s.readyWhere p o).agents = s.agents := rfl

@[simp] theorem State.readyWhere_charges (s : State) (p : WaitEntry → Bool) (o : Ending) :
    (s.readyWhere p o).charges = s.charges := rfl

@[simp] theorem State.readyWhere_presented (s : State) (p : WaitEntry → Bool) (o : Ending) :
    (s.readyWhere p o).presented = s.presented := rfl

@[simp] theorem State.readyWhere_heldLookups (s : State) (p : WaitEntry → Bool) (o : Ending) :
    (s.readyWhere p o).heldLookups = s.heldLookups := rfl

@[simp] theorem State.readyWhere_rotation (s : State) (p : WaitEntry → Bool) (o : Ending) :
    (s.readyWhere p o).rotation = s.rotation := rfl

@[simp] theorem State.readyWhere_lowPointer (s : State) (p : WaitEntry → Bool) (o : Ending) :
    (s.readyWhere p o).lowPointer = s.lowPointer := rfl

@[simp] theorem State.readyWhere_tenure (s : State) (p : WaitEntry → Bool) (o : Ending) :
    (s.readyWhere p o).tenure = s.tenure := rfl

@[simp] theorem State.readyWhere_sweep (s : State) (p : WaitEntry → Bool) (o : Ending) : (s.readyWhere p o).sweep = s.sweep := rfl

@[simp] theorem State.readyWhere_params (s : State) (p : WaitEntry → Bool) (o : Ending) :
    (s.readyWhere p o).params = s.params := rfl

@[simp] theorem State.readyWhere_result (s : State) (p : WaitEntry → Bool) (o : Ending) :
    (s.readyWhere p o).result = s.result := rfl

@[simp] theorem State.readyWhere_snapshot (s : State) (p : WaitEntry → Bool) (o : Ending) :
    (s.readyWhere p o).snapshot = s.snapshot := rfl

@[simp] theorem State.readyWhere_staging (s : State) (p : WaitEntry → Bool) (o : Ending) :
    (s.readyWhere p o).staging = s.staging := rfl

@[simp] theorem State.readyWhere_lock (s : State) (p : WaitEntry → Bool) (o : Ending) : (s.readyWhere p o).lock = s.lock := rfl

@[simp] theorem State.readyWhere_sources (s : State) (p : WaitEntry → Bool) (o : Ending) :
    (s.readyWhere p o).sources = s.sources := rfl

@[simp] theorem State.readyWhere_globalEnable (s : State) (p : WaitEntry → Bool) (o : Ending) :
    (s.readyWhere p o).globalEnable = s.globalEnable := rfl

@[simp] theorem State.readyWhere_elevate (s : State) (p : WaitEntry → Bool) (o : Ending) :
    (s.readyWhere p o).elevate = s.elevate := rfl

/-! ### `readyCell` -/

@[simp] theorem State.readyCell_pending (s : State) (c : CellNo) (o : Ending) : (s.readyCell c o).pending = s.pending := rfl

@[simp] theorem State.readyCell_resetHeld (s : State) (c : CellNo) (o : Ending) : (s.readyCell c o).resetHeld = s.resetHeld := rfl

@[simp] theorem State.readyCell_granule64 (s : State) (c : CellNo) (o : Ending) : (s.readyCell c o).granule64 = s.granule64 := rfl

@[simp] theorem State.readyCell_agentsCode (s : State) (c : CellNo) (o : Ending) :
    (s.readyCell c o).agentsCode = s.agentsCode := rfl

@[simp] theorem State.readyCell_attach (s : State) (c : CellNo) (o : Ending) : (s.readyCell c o).attach = s.attach := rfl

@[simp] theorem State.readyCell_req (s : State) (c : CellNo) (o : Ending) : (s.readyCell c o).req = s.req := rfl

@[simp] theorem State.readyCell_mack (s : State) (c : CellNo) (o : Ending) : (s.readyCell c o).mack = s.mack := rfl

@[simp] theorem State.readyCell_md (s : State) (c : CellNo) (o : Ending) : (s.readyCell c o).md = s.md := rfl

@[simp] theorem State.readyCell_lbData (s : State) (c : CellNo) (o : Ending) : (s.readyCell c o).lbData = s.lbData := rfl

@[simp] theorem State.readyCell_ckAnswer (s : State) (c : CellNo) (o : Ending) : (s.readyCell c o).ckAnswer = s.ckAnswer := rfl

@[simp] theorem State.readyCell_map (s : State) (c : CellNo) (o : Ending) : (s.readyCell c o).map = s.map := rfl

@[simp] theorem State.readyCell_unitCode (s : State) (c : CellNo) (o : Ending) : (s.readyCell c o).unitCode = s.unitCode := rfl

@[simp] theorem State.readyCell_frozen (s : State) (c : CellNo) (o : Ending) : (s.readyCell c o).frozen = s.frozen := rfl

@[simp] theorem State.readyCell_holdPeriod (s : State) (c : CellNo) (o : Ending) :
    (s.readyCell c o).holdPeriod = s.holdPeriod := rfl

@[simp] theorem State.readyCell_collectWindow (s : State) (c : CellNo) (o : Ending) :
    (s.readyCell c o).collectWindow = s.collectWindow := rfl

@[simp] theorem State.readyCell_yieldFlag (s : State) (c : CellNo) (o : Ending) : (s.readyCell c o).yieldFlag = s.yieldFlag := rfl

@[simp] theorem State.readyCell_slots (s : State) (c : CellNo) (o : Ending) : (s.readyCell c o).slots = s.slots := rfl

@[simp] theorem State.readyCell_order (s : State) (c : CellNo) (o : Ending) : (s.readyCell c o).order = s.order := rfl

@[simp] theorem State.readyCell_agents (s : State) (c : CellNo) (o : Ending) : (s.readyCell c o).agents = s.agents := rfl

@[simp] theorem State.readyCell_charges (s : State) (c : CellNo) (o : Ending) : (s.readyCell c o).charges = s.charges := rfl

@[simp] theorem State.readyCell_presented (s : State) (c : CellNo) (o : Ending) : (s.readyCell c o).presented = s.presented := rfl

@[simp] theorem State.readyCell_heldLookups (s : State) (c : CellNo) (o : Ending) :
    (s.readyCell c o).heldLookups = s.heldLookups := rfl

@[simp] theorem State.readyCell_rotation (s : State) (c : CellNo) (o : Ending) : (s.readyCell c o).rotation = s.rotation := rfl

@[simp] theorem State.readyCell_lowPointer (s : State) (c : CellNo) (o : Ending) :
    (s.readyCell c o).lowPointer = s.lowPointer := rfl

@[simp] theorem State.readyCell_tenure (s : State) (c : CellNo) (o : Ending) : (s.readyCell c o).tenure = s.tenure := rfl

@[simp] theorem State.readyCell_sweep (s : State) (c : CellNo) (o : Ending) : (s.readyCell c o).sweep = s.sweep := rfl

@[simp] theorem State.readyCell_params (s : State) (c : CellNo) (o : Ending) : (s.readyCell c o).params = s.params := rfl

@[simp] theorem State.readyCell_result (s : State) (c : CellNo) (o : Ending) : (s.readyCell c o).result = s.result := rfl

@[simp] theorem State.readyCell_snapshot (s : State) (c : CellNo) (o : Ending) : (s.readyCell c o).snapshot = s.snapshot := rfl

@[simp] theorem State.readyCell_staging (s : State) (c : CellNo) (o : Ending) : (s.readyCell c o).staging = s.staging := rfl

@[simp] theorem State.readyCell_lock (s : State) (c : CellNo) (o : Ending) : (s.readyCell c o).lock = s.lock := rfl

@[simp] theorem State.readyCell_sources (s : State) (c : CellNo) (o : Ending) : (s.readyCell c o).sources = s.sources := rfl

@[simp] theorem State.readyCell_globalEnable (s : State) (c : CellNo) (o : Ending) :
    (s.readyCell c o).globalEnable = s.globalEnable := rfl

@[simp] theorem State.readyCell_elevate (s : State) (c : CellNo) (o : Ending) : (s.readyCell c o).elevate = s.elevate := rfl

/-! ### `grantEntry` -/

@[simp] theorem State.grantEntry_pending (s : State) (c : CellNo) (e : WaitEntry) (k : SlotNo) :
    (s.grantEntry c e k).pending = s.pending := rfl

@[simp] theorem State.grantEntry_resetHeld (s : State) (c : CellNo) (e : WaitEntry) (k : SlotNo) :
    (s.grantEntry c e k).resetHeld = s.resetHeld := rfl

@[simp] theorem State.grantEntry_granule64 (s : State) (c : CellNo) (e : WaitEntry) (k : SlotNo) :
    (s.grantEntry c e k).granule64 = s.granule64 := rfl

@[simp] theorem State.grantEntry_agentsCode (s : State) (c : CellNo) (e : WaitEntry) (k : SlotNo) :
    (s.grantEntry c e k).agentsCode = s.agentsCode := rfl

@[simp] theorem State.grantEntry_attach (s : State) (c : CellNo) (e : WaitEntry) (k : SlotNo) :
    (s.grantEntry c e k).attach = s.attach := rfl

@[simp] theorem State.grantEntry_req (s : State) (c : CellNo) (e : WaitEntry) (k : SlotNo) :
    (s.grantEntry c e k).req = s.req := rfl

@[simp] theorem State.grantEntry_mack (s : State) (c : CellNo) (e : WaitEntry) (k : SlotNo) :
    (s.grantEntry c e k).mack = s.mack := rfl

@[simp] theorem State.grantEntry_md (s : State) (c : CellNo) (e : WaitEntry) (k : SlotNo) : (s.grantEntry c e k).md = s.md := rfl

@[simp] theorem State.grantEntry_lbData (s : State) (c : CellNo) (e : WaitEntry) (k : SlotNo) :
    (s.grantEntry c e k).lbData = s.lbData := rfl

@[simp] theorem State.grantEntry_ckAnswer (s : State) (c : CellNo) (e : WaitEntry) (k : SlotNo) :
    (s.grantEntry c e k).ckAnswer = s.ckAnswer := rfl

@[simp] theorem State.grantEntry_map (s : State) (c : CellNo) (e : WaitEntry) (k : SlotNo) :
    (s.grantEntry c e k).map = s.map := rfl

@[simp] theorem State.grantEntry_unitCode (s : State) (c : CellNo) (e : WaitEntry) (k : SlotNo) :
    (s.grantEntry c e k).unitCode = s.unitCode := rfl

@[simp] theorem State.grantEntry_frozen (s : State) (c : CellNo) (e : WaitEntry) (k : SlotNo) :
    (s.grantEntry c e k).frozen = s.frozen := rfl

@[simp] theorem State.grantEntry_holdPeriod (s : State) (c : CellNo) (e : WaitEntry) (k : SlotNo) :
    (s.grantEntry c e k).holdPeriod = s.holdPeriod := rfl

@[simp] theorem State.grantEntry_collectWindow (s : State) (c : CellNo) (e : WaitEntry) (k : SlotNo) :
    (s.grantEntry c e k).collectWindow = s.collectWindow := rfl

@[simp] theorem State.grantEntry_yieldFlag (s : State) (c : CellNo) (e : WaitEntry) (k : SlotNo) :
    (s.grantEntry c e k).yieldFlag = s.yieldFlag := rfl

@[simp] theorem State.grantEntry_order (s : State) (c : CellNo) (e : WaitEntry) (k : SlotNo) :
    (s.grantEntry c e k).order = s.order := rfl

@[simp] theorem State.grantEntry_agents (s : State) (c : CellNo) (e : WaitEntry) (k : SlotNo) :
    (s.grantEntry c e k).agents = s.agents := rfl

@[simp] theorem State.grantEntry_charges (s : State) (c : CellNo) (e : WaitEntry) (k : SlotNo) :
    (s.grantEntry c e k).charges = s.charges := rfl

@[simp] theorem State.grantEntry_presented (s : State) (c : CellNo) (e : WaitEntry) (k : SlotNo) :
    (s.grantEntry c e k).presented = s.presented := rfl

@[simp] theorem State.grantEntry_heldLookups (s : State) (c : CellNo) (e : WaitEntry) (k : SlotNo) :
    (s.grantEntry c e k).heldLookups = s.heldLookups := rfl

@[simp] theorem State.grantEntry_rotation (s : State) (c : CellNo) (e : WaitEntry) (k : SlotNo) :
    (s.grantEntry c e k).rotation = s.rotation := rfl

@[simp] theorem State.grantEntry_lowPointer (s : State) (c : CellNo) (e : WaitEntry) (k : SlotNo) :
    (s.grantEntry c e k).lowPointer = s.lowPointer := rfl

@[simp] theorem State.grantEntry_tenure (s : State) (c : CellNo) (e : WaitEntry) (k : SlotNo) :
    (s.grantEntry c e k).tenure = s.tenure := rfl

@[simp] theorem State.grantEntry_sweep (s : State) (c : CellNo) (e : WaitEntry) (k : SlotNo) :
    (s.grantEntry c e k).sweep = s.sweep := rfl

@[simp] theorem State.grantEntry_params (s : State) (c : CellNo) (e : WaitEntry) (k : SlotNo) :
    (s.grantEntry c e k).params = s.params := rfl

@[simp] theorem State.grantEntry_result (s : State) (c : CellNo) (e : WaitEntry) (k : SlotNo) :
    (s.grantEntry c e k).result = s.result := rfl

@[simp] theorem State.grantEntry_snapshot (s : State) (c : CellNo) (e : WaitEntry) (k : SlotNo) :
    (s.grantEntry c e k).snapshot = s.snapshot := rfl

@[simp] theorem State.grantEntry_staging (s : State) (c : CellNo) (e : WaitEntry) (k : SlotNo) :
    (s.grantEntry c e k).staging = s.staging := rfl

@[simp] theorem State.grantEntry_lock (s : State) (c : CellNo) (e : WaitEntry) (k : SlotNo) :
    (s.grantEntry c e k).lock = s.lock := rfl

@[simp] theorem State.grantEntry_sources (s : State) (c : CellNo) (e : WaitEntry) (k : SlotNo) :
    (s.grantEntry c e k).sources = s.sources := rfl

@[simp] theorem State.grantEntry_globalEnable (s : State) (c : CellNo) (e : WaitEntry) (k : SlotNo) :
    (s.grantEntry c e k).globalEnable = s.globalEnable := rfl

@[simp] theorem State.grantEntry_elevate (s : State) (c : CellNo) (e : WaitEntry) (k : SlotNo) :
    (s.grantEntry c e k).elevate = s.elevate := rfl

/-! ### `revokeLease` -/

@[simp] theorem State.revokeLease_pending (s : State) (k : SlotNo) (l : AgentLease) :
    (s.revokeLease k l).pending = s.pending := rfl

@[simp] theorem State.revokeLease_resetHeld (s : State) (k : SlotNo) (l : AgentLease) :
    (s.revokeLease k l).resetHeld = s.resetHeld := rfl

@[simp] theorem State.revokeLease_granule64 (s : State) (k : SlotNo) (l : AgentLease) :
    (s.revokeLease k l).granule64 = s.granule64 := rfl

@[simp] theorem State.revokeLease_agentsCode (s : State) (k : SlotNo) (l : AgentLease) :
    (s.revokeLease k l).agentsCode = s.agentsCode := rfl

@[simp] theorem State.revokeLease_attach (s : State) (k : SlotNo) (l : AgentLease) : (s.revokeLease k l).attach = s.attach := rfl

@[simp] theorem State.revokeLease_req (s : State) (k : SlotNo) (l : AgentLease) : (s.revokeLease k l).req = s.req := rfl

@[simp] theorem State.revokeLease_mack (s : State) (k : SlotNo) (l : AgentLease) : (s.revokeLease k l).mack = s.mack := rfl

@[simp] theorem State.revokeLease_md (s : State) (k : SlotNo) (l : AgentLease) : (s.revokeLease k l).md = s.md := rfl

@[simp] theorem State.revokeLease_lbData (s : State) (k : SlotNo) (l : AgentLease) : (s.revokeLease k l).lbData = s.lbData := rfl

@[simp] theorem State.revokeLease_ckAnswer (s : State) (k : SlotNo) (l : AgentLease) :
    (s.revokeLease k l).ckAnswer = s.ckAnswer := rfl

@[simp] theorem State.revokeLease_map (s : State) (k : SlotNo) (l : AgentLease) : (s.revokeLease k l).map = s.map := rfl

@[simp] theorem State.revokeLease_unitCode (s : State) (k : SlotNo) (l : AgentLease) :
    (s.revokeLease k l).unitCode = s.unitCode := rfl

@[simp] theorem State.revokeLease_frozen (s : State) (k : SlotNo) (l : AgentLease) : (s.revokeLease k l).frozen = s.frozen := rfl

@[simp] theorem State.revokeLease_holdPeriod (s : State) (k : SlotNo) (l : AgentLease) :
    (s.revokeLease k l).holdPeriod = s.holdPeriod := rfl

@[simp] theorem State.revokeLease_collectWindow (s : State) (k : SlotNo) (l : AgentLease) :
    (s.revokeLease k l).collectWindow = s.collectWindow := rfl

@[simp] theorem State.revokeLease_yieldFlag (s : State) (k : SlotNo) (l : AgentLease) :
    (s.revokeLease k l).yieldFlag = s.yieldFlag := rfl

@[simp] theorem State.revokeLease_cells (s : State) (k : SlotNo) (l : AgentLease) : (s.revokeLease k l).cells = s.cells := rfl

@[simp] theorem State.revokeLease_order (s : State) (k : SlotNo) (l : AgentLease) : (s.revokeLease k l).order = s.order := rfl

@[simp] theorem State.revokeLease_agents (s : State) (k : SlotNo) (l : AgentLease) : (s.revokeLease k l).agents = s.agents := rfl

@[simp] theorem State.revokeLease_charges (s : State) (k : SlotNo) (l : AgentLease) :
    (s.revokeLease k l).charges = s.charges := rfl

@[simp] theorem State.revokeLease_presented (s : State) (k : SlotNo) (l : AgentLease) :
    (s.revokeLease k l).presented = s.presented := rfl

@[simp] theorem State.revokeLease_heldLookups (s : State) (k : SlotNo) (l : AgentLease) :
    (s.revokeLease k l).heldLookups = s.heldLookups := rfl

@[simp] theorem State.revokeLease_rotation (s : State) (k : SlotNo) (l : AgentLease) :
    (s.revokeLease k l).rotation = s.rotation := rfl

@[simp] theorem State.revokeLease_lowPointer (s : State) (k : SlotNo) (l : AgentLease) :
    (s.revokeLease k l).lowPointer = s.lowPointer := rfl

@[simp] theorem State.revokeLease_tenure (s : State) (k : SlotNo) (l : AgentLease) : (s.revokeLease k l).tenure = s.tenure := rfl

@[simp] theorem State.revokeLease_sweep (s : State) (k : SlotNo) (l : AgentLease) : (s.revokeLease k l).sweep = s.sweep := rfl

@[simp] theorem State.revokeLease_params (s : State) (k : SlotNo) (l : AgentLease) : (s.revokeLease k l).params = s.params := rfl

@[simp] theorem State.revokeLease_result (s : State) (k : SlotNo) (l : AgentLease) : (s.revokeLease k l).result = s.result := rfl

@[simp] theorem State.revokeLease_snapshot (s : State) (k : SlotNo) (l : AgentLease) :
    (s.revokeLease k l).snapshot = s.snapshot := rfl

@[simp] theorem State.revokeLease_staging (s : State) (k : SlotNo) (l : AgentLease) :
    (s.revokeLease k l).staging = s.staging := rfl

@[simp] theorem State.revokeLease_lock (s : State) (k : SlotNo) (l : AgentLease) : (s.revokeLease k l).lock = s.lock := rfl

@[simp] theorem State.revokeLease_sources (s : State) (k : SlotNo) (l : AgentLease) :
    (s.revokeLease k l).sources = s.sources := rfl

@[simp] theorem State.revokeLease_globalEnable (s : State) (k : SlotNo) (l : AgentLease) :
    (s.revokeLease k l).globalEnable = s.globalEnable := rfl

@[simp] theorem State.revokeLease_elevate (s : State) (k : SlotNo) (l : AgentLease) :
    (s.revokeLease k l).elevate = s.elevate := rfl

/-! ### `renewLease` -/

@[simp] theorem State.renewLease_pending (s : State) (k : SlotNo) (l : AgentLease) : (s.renewLease k l).pending = s.pending := rfl

@[simp] theorem State.renewLease_resetHeld (s : State) (k : SlotNo) (l : AgentLease) :
    (s.renewLease k l).resetHeld = s.resetHeld := rfl

@[simp] theorem State.renewLease_granule64 (s : State) (k : SlotNo) (l : AgentLease) :
    (s.renewLease k l).granule64 = s.granule64 := rfl

@[simp] theorem State.renewLease_agentsCode (s : State) (k : SlotNo) (l : AgentLease) :
    (s.renewLease k l).agentsCode = s.agentsCode := rfl

@[simp] theorem State.renewLease_attach (s : State) (k : SlotNo) (l : AgentLease) : (s.renewLease k l).attach = s.attach := rfl

@[simp] theorem State.renewLease_req (s : State) (k : SlotNo) (l : AgentLease) : (s.renewLease k l).req = s.req := rfl

@[simp] theorem State.renewLease_mack (s : State) (k : SlotNo) (l : AgentLease) : (s.renewLease k l).mack = s.mack := rfl

@[simp] theorem State.renewLease_md (s : State) (k : SlotNo) (l : AgentLease) : (s.renewLease k l).md = s.md := rfl

@[simp] theorem State.renewLease_lbData (s : State) (k : SlotNo) (l : AgentLease) : (s.renewLease k l).lbData = s.lbData := rfl

@[simp] theorem State.renewLease_ckAnswer (s : State) (k : SlotNo) (l : AgentLease) :
    (s.renewLease k l).ckAnswer = s.ckAnswer := rfl

@[simp] theorem State.renewLease_map (s : State) (k : SlotNo) (l : AgentLease) : (s.renewLease k l).map = s.map := rfl

@[simp] theorem State.renewLease_unitCode (s : State) (k : SlotNo) (l : AgentLease) :
    (s.renewLease k l).unitCode = s.unitCode := rfl

@[simp] theorem State.renewLease_frozen (s : State) (k : SlotNo) (l : AgentLease) : (s.renewLease k l).frozen = s.frozen := rfl

@[simp] theorem State.renewLease_holdPeriod (s : State) (k : SlotNo) (l : AgentLease) :
    (s.renewLease k l).holdPeriod = s.holdPeriod := rfl

@[simp] theorem State.renewLease_collectWindow (s : State) (k : SlotNo) (l : AgentLease) :
    (s.renewLease k l).collectWindow = s.collectWindow := rfl

@[simp] theorem State.renewLease_yieldFlag (s : State) (k : SlotNo) (l : AgentLease) :
    (s.renewLease k l).yieldFlag = s.yieldFlag := rfl

@[simp] theorem State.renewLease_cells (s : State) (k : SlotNo) (l : AgentLease) : (s.renewLease k l).cells = s.cells := rfl

@[simp] theorem State.renewLease_order (s : State) (k : SlotNo) (l : AgentLease) : (s.renewLease k l).order = s.order := rfl

@[simp] theorem State.renewLease_agents (s : State) (k : SlotNo) (l : AgentLease) : (s.renewLease k l).agents = s.agents := rfl

@[simp] theorem State.renewLease_charges (s : State) (k : SlotNo) (l : AgentLease) : (s.renewLease k l).charges = s.charges := rfl

@[simp] theorem State.renewLease_presented (s : State) (k : SlotNo) (l : AgentLease) :
    (s.renewLease k l).presented = s.presented := rfl

@[simp] theorem State.renewLease_heldLookups (s : State) (k : SlotNo) (l : AgentLease) :
    (s.renewLease k l).heldLookups = s.heldLookups := rfl

@[simp] theorem State.renewLease_rotation (s : State) (k : SlotNo) (l : AgentLease) :
    (s.renewLease k l).rotation = s.rotation := rfl

@[simp] theorem State.renewLease_lowPointer (s : State) (k : SlotNo) (l : AgentLease) :
    (s.renewLease k l).lowPointer = s.lowPointer := rfl

@[simp] theorem State.renewLease_tenure (s : State) (k : SlotNo) (l : AgentLease) : (s.renewLease k l).tenure = s.tenure := rfl

@[simp] theorem State.renewLease_sweep (s : State) (k : SlotNo) (l : AgentLease) : (s.renewLease k l).sweep = s.sweep := rfl

@[simp] theorem State.renewLease_params (s : State) (k : SlotNo) (l : AgentLease) : (s.renewLease k l).params = s.params := rfl

@[simp] theorem State.renewLease_result (s : State) (k : SlotNo) (l : AgentLease) : (s.renewLease k l).result = s.result := rfl

@[simp] theorem State.renewLease_snapshot (s : State) (k : SlotNo) (l : AgentLease) :
    (s.renewLease k l).snapshot = s.snapshot := rfl

@[simp] theorem State.renewLease_staging (s : State) (k : SlotNo) (l : AgentLease) : (s.renewLease k l).staging = s.staging := rfl

@[simp] theorem State.renewLease_lock (s : State) (k : SlotNo) (l : AgentLease) : (s.renewLease k l).lock = s.lock := rfl

@[simp] theorem State.renewLease_sources (s : State) (k : SlotNo) (l : AgentLease) : (s.renewLease k l).sources = s.sources := rfl

@[simp] theorem State.renewLease_globalEnable (s : State) (k : SlotNo) (l : AgentLease) :
    (s.renewLease k l).globalEnable = s.globalEnable := rfl

@[simp] theorem State.renewLease_elevate (s : State) (k : SlotNo) (l : AgentLease) : (s.renewLease k l).elevate = s.elevate := rfl

/-! ### `finish` -/

@[simp] theorem State.finish_pending (s : State) (r : ResultCode) (v w : Word) : (s.finish r v w).pending = s.pending := rfl

@[simp] theorem State.finish_resetHeld (s : State) (r : ResultCode) (v w : Word) : (s.finish r v w).resetHeld = s.resetHeld := rfl

@[simp] theorem State.finish_granule64 (s : State) (r : ResultCode) (v w : Word) : (s.finish r v w).granule64 = s.granule64 := rfl

@[simp] theorem State.finish_agentsCode (s : State) (r : ResultCode) (v w : Word) :
    (s.finish r v w).agentsCode = s.agentsCode := rfl

@[simp] theorem State.finish_attach (s : State) (r : ResultCode) (v w : Word) : (s.finish r v w).attach = s.attach := rfl

@[simp] theorem State.finish_req (s : State) (r : ResultCode) (v w : Word) : (s.finish r v w).req = s.req := rfl

@[simp] theorem State.finish_mack (s : State) (r : ResultCode) (v w : Word) : (s.finish r v w).mack = s.mack := rfl

@[simp] theorem State.finish_md (s : State) (r : ResultCode) (v w : Word) : (s.finish r v w).md = s.md := rfl

@[simp] theorem State.finish_lbData (s : State) (r : ResultCode) (v w : Word) : (s.finish r v w).lbData = s.lbData := rfl

@[simp] theorem State.finish_ckAnswer (s : State) (r : ResultCode) (v w : Word) : (s.finish r v w).ckAnswer = s.ckAnswer := rfl

@[simp] theorem State.finish_map (s : State) (r : ResultCode) (v w : Word) : (s.finish r v w).map = s.map := rfl

@[simp] theorem State.finish_unitCode (s : State) (r : ResultCode) (v w : Word) : (s.finish r v w).unitCode = s.unitCode := rfl

@[simp] theorem State.finish_frozen (s : State) (r : ResultCode) (v w : Word) : (s.finish r v w).frozen = s.frozen := rfl

@[simp] theorem State.finish_holdPeriod (s : State) (r : ResultCode) (v w : Word) :
    (s.finish r v w).holdPeriod = s.holdPeriod := rfl

@[simp] theorem State.finish_collectWindow (s : State) (r : ResultCode) (v w : Word) :
    (s.finish r v w).collectWindow = s.collectWindow := rfl

@[simp] theorem State.finish_yieldFlag (s : State) (r : ResultCode) (v w : Word) : (s.finish r v w).yieldFlag = s.yieldFlag := rfl

@[simp] theorem State.finish_slots (s : State) (r : ResultCode) (v w : Word) : (s.finish r v w).slots = s.slots := rfl

@[simp] theorem State.finish_cells (s : State) (r : ResultCode) (v w : Word) : (s.finish r v w).cells = s.cells := rfl

@[simp] theorem State.finish_order (s : State) (r : ResultCode) (v w : Word) : (s.finish r v w).order = s.order := rfl

@[simp] theorem State.finish_agents (s : State) (r : ResultCode) (v w : Word) : (s.finish r v w).agents = s.agents := rfl

@[simp] theorem State.finish_charges (s : State) (r : ResultCode) (v w : Word) : (s.finish r v w).charges = s.charges := rfl

@[simp] theorem State.finish_presented (s : State) (r : ResultCode) (v w : Word) : (s.finish r v w).presented = s.presented := rfl

@[simp] theorem State.finish_heldLookups (s : State) (r : ResultCode) (v w : Word) :
    (s.finish r v w).heldLookups = s.heldLookups := rfl

@[simp] theorem State.finish_rotation (s : State) (r : ResultCode) (v w : Word) : (s.finish r v w).rotation = s.rotation := rfl

@[simp] theorem State.finish_lowPointer (s : State) (r : ResultCode) (v w : Word) :
    (s.finish r v w).lowPointer = s.lowPointer := rfl

@[simp] theorem State.finish_tenure (s : State) (r : ResultCode) (v w : Word) : (s.finish r v w).tenure = s.tenure := rfl

@[simp] theorem State.finish_sweep (s : State) (r : ResultCode) (v w : Word) : (s.finish r v w).sweep = s.sweep := rfl

@[simp] theorem State.finish_snapshot (s : State) (r : ResultCode) (v w : Word) : (s.finish r v w).snapshot = s.snapshot := rfl

@[simp] theorem State.finish_staging (s : State) (r : ResultCode) (v w : Word) : (s.finish r v w).staging = s.staging := rfl

@[simp] theorem State.finish_lock (s : State) (r : ResultCode) (v w : Word) : (s.finish r v w).lock = s.lock := rfl

@[simp] theorem State.finish_sources (s : State) (r : ResultCode) (v w : Word) : (s.finish r v w).sources = s.sources := rfl

@[simp] theorem State.finish_globalEnable (s : State) (r : ResultCode) (v w : Word) :
    (s.finish r v w).globalEnable = s.globalEnable := rfl

@[simp] theorem State.finish_elevate (s : State) (r : ResultCode) (v w : Word) : (s.finish r v w).elevate = s.elevate := rfl

/-! ### `conclude` -/

@[simp] theorem State.conclude_pending (s : State) (r : ResultCode) : (s.conclude r).pending = s.pending := rfl

@[simp] theorem State.conclude_resetHeld (s : State) (r : ResultCode) : (s.conclude r).resetHeld = s.resetHeld := rfl

@[simp] theorem State.conclude_granule64 (s : State) (r : ResultCode) : (s.conclude r).granule64 = s.granule64 := rfl

@[simp] theorem State.conclude_agentsCode (s : State) (r : ResultCode) : (s.conclude r).agentsCode = s.agentsCode := rfl

@[simp] theorem State.conclude_attach (s : State) (r : ResultCode) : (s.conclude r).attach = s.attach := rfl

@[simp] theorem State.conclude_req (s : State) (r : ResultCode) : (s.conclude r).req = s.req := rfl

@[simp] theorem State.conclude_mack (s : State) (r : ResultCode) : (s.conclude r).mack = s.mack := rfl

@[simp] theorem State.conclude_md (s : State) (r : ResultCode) : (s.conclude r).md = s.md := rfl

@[simp] theorem State.conclude_lbData (s : State) (r : ResultCode) : (s.conclude r).lbData = s.lbData := rfl

@[simp] theorem State.conclude_ckAnswer (s : State) (r : ResultCode) : (s.conclude r).ckAnswer = s.ckAnswer := rfl

@[simp] theorem State.conclude_map (s : State) (r : ResultCode) : (s.conclude r).map = s.map := rfl

@[simp] theorem State.conclude_unitCode (s : State) (r : ResultCode) : (s.conclude r).unitCode = s.unitCode := rfl

@[simp] theorem State.conclude_frozen (s : State) (r : ResultCode) : (s.conclude r).frozen = s.frozen := rfl

@[simp] theorem State.conclude_holdPeriod (s : State) (r : ResultCode) : (s.conclude r).holdPeriod = s.holdPeriod := rfl

@[simp] theorem State.conclude_collectWindow (s : State) (r : ResultCode) : (s.conclude r).collectWindow = s.collectWindow := rfl

@[simp] theorem State.conclude_yieldFlag (s : State) (r : ResultCode) : (s.conclude r).yieldFlag = s.yieldFlag := rfl

@[simp] theorem State.conclude_slots (s : State) (r : ResultCode) : (s.conclude r).slots = s.slots := rfl

@[simp] theorem State.conclude_cells (s : State) (r : ResultCode) : (s.conclude r).cells = s.cells := rfl

@[simp] theorem State.conclude_order (s : State) (r : ResultCode) : (s.conclude r).order = s.order := rfl

@[simp] theorem State.conclude_agents (s : State) (r : ResultCode) : (s.conclude r).agents = s.agents := rfl

@[simp] theorem State.conclude_charges (s : State) (r : ResultCode) : (s.conclude r).charges = s.charges := rfl

@[simp] theorem State.conclude_presented (s : State) (r : ResultCode) : (s.conclude r).presented = s.presented := rfl

@[simp] theorem State.conclude_heldLookups (s : State) (r : ResultCode) : (s.conclude r).heldLookups = s.heldLookups := rfl

@[simp] theorem State.conclude_rotation (s : State) (r : ResultCode) : (s.conclude r).rotation = s.rotation := rfl

@[simp] theorem State.conclude_lowPointer (s : State) (r : ResultCode) : (s.conclude r).lowPointer = s.lowPointer := rfl

@[simp] theorem State.conclude_tenure (s : State) (r : ResultCode) : (s.conclude r).tenure = s.tenure := rfl

@[simp] theorem State.conclude_sweep (s : State) (r : ResultCode) : (s.conclude r).sweep = s.sweep := rfl

@[simp] theorem State.conclude_snapshot (s : State) (r : ResultCode) : (s.conclude r).snapshot = s.snapshot := rfl

@[simp] theorem State.conclude_staging (s : State) (r : ResultCode) : (s.conclude r).staging = s.staging := rfl

@[simp] theorem State.conclude_lock (s : State) (r : ResultCode) : (s.conclude r).lock = s.lock := rfl

@[simp] theorem State.conclude_sources (s : State) (r : ResultCode) : (s.conclude r).sources = s.sources := rfl

@[simp] theorem State.conclude_globalEnable (s : State) (r : ResultCode) : (s.conclude r).globalEnable = s.globalEnable := rfl

@[simp] theorem State.conclude_elevate (s : State) (r : ResultCode) : (s.conclude r).elevate = s.elevate := rfl

/-! ### `withAnswer` -/

@[simp] theorem State.withAnswer_pending (s : State) (a : AgentNo) (x : Answer) : (s.withAnswer a x).pending = s.pending := rfl

@[simp] theorem State.withAnswer_resetHeld (s : State) (a : AgentNo) (x : Answer) :
    (s.withAnswer a x).resetHeld = s.resetHeld := rfl

@[simp] theorem State.withAnswer_granule64 (s : State) (a : AgentNo) (x : Answer) :
    (s.withAnswer a x).granule64 = s.granule64 := rfl

@[simp] theorem State.withAnswer_agentsCode (s : State) (a : AgentNo) (x : Answer) :
    (s.withAnswer a x).agentsCode = s.agentsCode := rfl

@[simp] theorem State.withAnswer_attach (s : State) (a : AgentNo) (x : Answer) : (s.withAnswer a x).attach = s.attach := rfl

@[simp] theorem State.withAnswer_req (s : State) (a : AgentNo) (x : Answer) : (s.withAnswer a x).req = s.req := rfl

@[simp] theorem State.withAnswer_md (s : State) (a : AgentNo) (x : Answer) : (s.withAnswer a x).md = s.md := rfl

@[simp] theorem State.withAnswer_lbData (s : State) (a : AgentNo) (x : Answer) : (s.withAnswer a x).lbData = s.lbData := rfl

@[simp] theorem State.withAnswer_ckAnswer (s : State) (a : AgentNo) (x : Answer) : (s.withAnswer a x).ckAnswer = s.ckAnswer := rfl

@[simp] theorem State.withAnswer_map (s : State) (a : AgentNo) (x : Answer) : (s.withAnswer a x).map = s.map := rfl

@[simp] theorem State.withAnswer_unitCode (s : State) (a : AgentNo) (x : Answer) : (s.withAnswer a x).unitCode = s.unitCode := rfl

@[simp] theorem State.withAnswer_frozen (s : State) (a : AgentNo) (x : Answer) : (s.withAnswer a x).frozen = s.frozen := rfl

@[simp] theorem State.withAnswer_holdPeriod (s : State) (a : AgentNo) (x : Answer) :
    (s.withAnswer a x).holdPeriod = s.holdPeriod := rfl

@[simp] theorem State.withAnswer_collectWindow (s : State) (a : AgentNo) (x : Answer) :
    (s.withAnswer a x).collectWindow = s.collectWindow := rfl

@[simp] theorem State.withAnswer_yieldFlag (s : State) (a : AgentNo) (x : Answer) :
    (s.withAnswer a x).yieldFlag = s.yieldFlag := rfl

@[simp] theorem State.withAnswer_slots (s : State) (a : AgentNo) (x : Answer) : (s.withAnswer a x).slots = s.slots := rfl

@[simp] theorem State.withAnswer_cells (s : State) (a : AgentNo) (x : Answer) : (s.withAnswer a x).cells = s.cells := rfl

@[simp] theorem State.withAnswer_order (s : State) (a : AgentNo) (x : Answer) : (s.withAnswer a x).order = s.order := rfl

@[simp] theorem State.withAnswer_agents (s : State) (a : AgentNo) (x : Answer) : (s.withAnswer a x).agents = s.agents := rfl

@[simp] theorem State.withAnswer_charges (s : State) (a : AgentNo) (x : Answer) : (s.withAnswer a x).charges = s.charges := rfl

@[simp] theorem State.withAnswer_presented (s : State) (a : AgentNo) (x : Answer) :
    (s.withAnswer a x).presented = s.presented := rfl

@[simp] theorem State.withAnswer_heldLookups (s : State) (a : AgentNo) (x : Answer) :
    (s.withAnswer a x).heldLookups = s.heldLookups := rfl

@[simp] theorem State.withAnswer_rotation (s : State) (a : AgentNo) (x : Answer) : (s.withAnswer a x).rotation = s.rotation := rfl

@[simp] theorem State.withAnswer_lowPointer (s : State) (a : AgentNo) (x : Answer) :
    (s.withAnswer a x).lowPointer = s.lowPointer := rfl

@[simp] theorem State.withAnswer_sweep (s : State) (a : AgentNo) (x : Answer) : (s.withAnswer a x).sweep = s.sweep := rfl

@[simp] theorem State.withAnswer_params (s : State) (a : AgentNo) (x : Answer) : (s.withAnswer a x).params = s.params := rfl

@[simp] theorem State.withAnswer_result (s : State) (a : AgentNo) (x : Answer) : (s.withAnswer a x).result = s.result := rfl

@[simp] theorem State.withAnswer_snapshot (s : State) (a : AgentNo) (x : Answer) : (s.withAnswer a x).snapshot = s.snapshot := rfl

@[simp] theorem State.withAnswer_staging (s : State) (a : AgentNo) (x : Answer) : (s.withAnswer a x).staging = s.staging := rfl

@[simp] theorem State.withAnswer_lock (s : State) (a : AgentNo) (x : Answer) : (s.withAnswer a x).lock = s.lock := rfl

@[simp] theorem State.withAnswer_sources (s : State) (a : AgentNo) (x : Answer) : (s.withAnswer a x).sources = s.sources := rfl

@[simp] theorem State.withAnswer_globalEnable (s : State) (a : AgentNo) (x : Answer) :
    (s.withAnswer a x).globalEnable = s.globalEnable := rfl

@[simp] theorem State.withAnswer_elevate (s : State) (a : AgentNo) (x : Answer) : (s.withAnswer a x).elevate = s.elevate := rfl

end Sys2Proof.Machine
end

