-- ==== Sys2Proof/Laws/Ops.lean ====
section
/-! SUPPORT. What the shared operations do: one lemma for each thing a proof may ask of an operation, cited in place of its text. -/

set_option Elab.async false

namespace Sys2Proof.Machine

/-! ### Reading a record after a write -/

theorem State.slot_setSlot (s : State) (k j : SlotNo) (x : LeaseSlot) :
    (s.setSlot k x).slot j = if k = j then x else s.slot j := by
  simp only [State.slot, State.setSlot, Fin.getElem_fin, Vector.getElem_set, Fin.val_inj]

theorem State.slot_setSlotState (s : State) (k j : SlotNo) (x : SlotState) :
    (s.setSlotState k x).slot j = if k = j then ⟨(s.slot k).generation, x⟩ else s.slot j :=
  s.slot_setSlot k j _

theorem State.cell_setCell (s : State) (c d : CellNo) (x : WaitCell) :
    (s.setCell c x).cell d = if c = d then x else s.cell d := by
  simp only [State.cell, State.setCell, Fin.getElem_fin, Vector.getElem_set, Fin.val_inj]

theorem State.cell_setCellState (s : State) (c d : CellNo) (x : CellState) :
    (s.setCellState c x).cell d = if c = d then ⟨(s.cell c).generation, x⟩ else s.cell d :=
  s.cell_setCell c d _

theorem State.agent_setAgent (s : State) (a b : AgentNo) (x : AgentRecord) :
    (s.setAgent a x).agent b = if a = b then x else s.agent b := by
  simp only [State.agent, State.setAgent, Fin.getElem_fin, Vector.getElem_set, Fin.val_inj]

theorem State.slot_congr {s t : State} (h : s.slots = t.slots) (k : SlotNo) : s.slot k = t.slot k := by
  simp only [State.slot, h]

theorem State.cell_congr {s t : State} (h : s.cells = t.cells) (c : CellNo) : s.cell c = t.cell c := by
  simp only [State.cell, h]

theorem State.agent_congr {s t : State} (h : s.agents = t.agents) (a : AgentNo) : s.agent a = t.agent a := by
  simp only [State.agent, h]

@[simp] theorem State.slot_setCell (s : State) (c : CellNo) (x : WaitCell) (k : SlotNo) :
    (s.setCell c x).slot k = s.slot k := rfl

@[simp] theorem State.slot_setCellState (s : State) (c : CellNo) (x : CellState) (k : SlotNo) :
    (s.setCellState c x).slot k = s.slot k := rfl

@[simp] theorem State.cell_setSlot (s : State) (k : SlotNo) (x : LeaseSlot) (c : CellNo) :
    (s.setSlot k x).cell c = s.cell c := rfl

@[simp] theorem State.cell_setSlotState (s : State) (k : SlotNo) (x : SlotState) (c : CellNo) :
    (s.setSlotState k x).cell c = s.cell c := rfl

@[simp] theorem State.slot_raise (s : State) (x : Source) (d : Nat) (k : SlotNo) : (s.raise x d).slot k = s.slot k := rfl

@[simp] theorem State.cell_raise (s : State) (x : Source) (d : Nat) (c : CellNo) : (s.raise x d).cell c = s.cell c := rfl

@[simp] theorem State.agent_raise (s : State) (x : Source) (d : Nat) (a : AgentNo) : (s.raise x d).agent a = s.agent a := rfl

@[simp] theorem State.slot_setAgent (s : State) (a : AgentNo) (x : AgentRecord) (k : SlotNo) :
    (s.setAgent a x).slot k = s.slot k := rfl

@[simp] theorem State.cell_setAgent (s : State) (a : AgentNo) (x : AgentRecord) (c : CellNo) :
    (s.setAgent a x).cell c = s.cell c := rfl

@[simp] theorem State.slot_finish (s : State) (r : ResultCode) (v w : Word) (k : SlotNo) :
    (s.finish r v w).slot k = s.slot k := rfl

@[simp] theorem State.cell_finish (s : State) (r : ResultCode) (v w : Word) (c : CellNo) :
    (s.finish r v w).cell c = s.cell c := rfl

theorem State.sources_raise_self (s : State) (x : Source) (d : Nat) :
    (s.raise x d).sources[x.number] = ⟨true, BitVec.ofNat 8 d, s.sources[x.number].enabled⟩ := by
  simp [State.raise]

theorem State.sources_raise_of_ne (s : State) (x : Source) (d : Nat) (n : Fin 8) (h : x.number ≠ n) :
    (s.raise x d).sources[n] = s.sources[n] := by
  have h' : x.number.val ≠ n.val := fun e => h (Fin.ext e)
  simp [State.raise, h']

/-! ### Freeing, emptying, readying -/

theorem State.slot_freeSlot (s : State) (k j : SlotNo) :
    (s.freeSlot k).slot j = if k = j then (s.slot k).freed else s.slot j :=
  s.slot_setSlot k j _

theorem State.slot_freeSlotsWhere (s : State) (p : SlotState → Bool) (k : SlotNo) :
    (s.freeSlotsWhere p).slot k = if p (s.slot k).state then (s.slot k).freed else s.slot k := by
  simp only [State.slot, State.freeSlotsWhere, Fin.getElem_fin, Vector.getElem_map]
  rfl

theorem State.cell_emptyCell (s : State) (c d : CellNo) :
    (s.emptyCell c).cell d = if c = d then (s.cell c).emptied else s.cell d := by
  simp only [State.cell, State.emptyCell, Fin.getElem_fin, Vector.getElem_set, Fin.val_inj]

theorem State.cell_emptyCellsWhere (s : State) (p : CellState → Bool) (c : CellNo) :
    (s.emptyCellsWhere p).cell c = if p (s.cell c).state then (s.cell c).emptied else s.cell c := by
  simp only [State.cell, State.emptyCellsWhere, Fin.getElem_fin, Vector.getElem_map]
  rfl

theorem State.cell_readyWhere (s : State) (p : WaitEntry → Bool) (o : Ending) (c : CellNo) :
    (s.readyWhere p o).cell c = (s.cell c).readied p o s.collectAmount := by
  simp only [State.cell, State.readyWhere, Fin.getElem_fin, Vector.getElem_map]

theorem State.cell_readyCell (s : State) (c d : CellNo) (o : Ending) :
    (s.readyCell c o).cell d = if c = d then (s.cell c).readied (fun _ => true) o s.collectAmount else s.cell d :=
  s.cell_setCell c d _

theorem LeaseSlot.freed_of_ne_free {x : LeaseSlot} (h : x.state ≠ .free) : x.freed = ⟨x.generation + 1, .free⟩ := by
  obtain ⟨g, st⟩ := x
  cases st <;> simp_all [LeaseSlot.freed, SlotState.isFree]

theorem LeaseSlot.state_freed (x : LeaseSlot) : x.freed.state = .free := by
  obtain ⟨g, st⟩ := x
  cases st <;> simp [LeaseSlot.freed, SlotState.isFree]

theorem WaitCell.emptied_of_ne_empty {x : WaitCell} (h : x.state ≠ .empty) : x.emptied = ⟨x.generation + 1, .empty⟩ := by
  obtain ⟨g, st⟩ := x
  cases st <;> simp_all [WaitCell.emptied, CellState.isEmpty]

theorem WaitCell.state_emptied (x : WaitCell) : x.emptied.state = .empty := by
  obtain ⟨g, st⟩ := x
  cases st <;> simp [WaitCell.emptied, CellState.isEmpty]

theorem WaitCell.readied_eq (x : WaitCell) (p : WaitEntry → Bool) (o : Ending) (n : Nat) :
    x.readied p o n = x ∨ ∃ e r w, x.state = .waiting e r w ∧ p e = true ∧ x.readied p o n = ⟨x.generation, .ended e o n⟩ := by
  obtain ⟨g, st⟩ := x
  cases st with
  | waiting e r w => by_cases h : p e = true <;> simp [WaitCell.readied, h]
  | empty => exact .inl rfl
  | granted e l k => exact .inl rfl
  | ended e o l => exact .inl rfl

theorem WaitCell.waiting_readied (x : WaitCell) (p : WaitEntry → Bool) (o : Ending) (n : Nat) :
    (x.readied p o n).state.waiting? = x.state.waiting?.filter fun e => !p e := by
  obtain ⟨g, st⟩ := x
  cases st with
  | waiting e r w => by_cases h : p e = true <;> simp [WaitCell.readied, CellState.waiting?, Option.filter, h]
  | empty => rfl
  | granted e l k => rfl
  | ended e o l => rfl

/-! ### The tests against claims, and the choice of a slot and of a cell -/

theorem State.heldAgainst_eq_false_iff (s : State) (q : Claim) : s.heldAgainst q = false ↔ s.NoHolderAgainst q := by
  simp only [State.heldAgainst, State.NoHolderAgainst, State.slot, List.any_eq_false, Vector.mem_toList_iff,
    Vector.mem_iff_getElem, Option.any_eq_true, Option.mem_def, not_exists, not_and, Bool.not_eq_true]
  constructor
  · intro h k c hc
    exact h _ ⟨k.val, k.isLt, rfl⟩ c hc
  · rintro h _ ⟨i, hi, rfl⟩ c hc
    exact h ⟨i, hi⟩ c hc

theorem State.waitedAgainst_eq_false_iff (s : State) (q : Claim) : s.waitedAgainst q = false ↔ s.NoWaiterAgainst q := by
  simp only [State.waitedAgainst, State.NoWaiterAgainst, State.cell, List.any_eq_false, Vector.mem_toList_iff,
    Vector.mem_iff_getElem, Option.any_eq_true, Option.mem_def, not_exists, not_and, Bool.not_eq_true]
  constructor
  · intro h c e he
    exact h _ ⟨c.val, c.isLt, rfl⟩ e he
  · rintro h _ ⟨i, hi, rfl⟩ e he
    exact h ⟨i, hi⟩ e he

theorem SlotState.isFree_iff (x : SlotState) : x.isFree = true ↔ x = .free := by
  cases x <;> simp [SlotState.isFree]

theorem CellState.isEmpty_iff (x : CellState) : x.isEmpty = true ↔ x = .empty := by
  cases x <;> simp [CellState.isEmpty]

/-- The first number of a list of all numbers that satisfies a test is the lowest one that does. -/
theorem find_finRange_eq_some_iff {n : Nat} (p : Fin n → Bool) (k : Fin n) :
    (List.finRange n).find? p = some k ↔ p k = true ∧ ∀ j : Fin n, j < k → p j = false := by
  rw [List.find?_eq_some_iff_getElem]
  constructor
  · rintro ⟨hk, i, hi, he, hb⟩
    have hki : k.val = i := by rw [← he]; simp
    refine ⟨hk, fun j hj => ?_⟩
    have := hb j.val (by rw [← hki]; exact hj)
    simpa using this
  · rintro ⟨hk, hb⟩
    refine ⟨hk, k.val, by simp, by simp, fun j hj => ?_⟩
    have := hb ⟨j, by omega⟩ hj
    simpa using this

theorem State.lowestFree_eq_some_iff (s : State) (k : SlotNo) : s.lowestFree = some k ↔ s.LowestFreeIs k := by
  rw [State.lowestFree, find_finRange_eq_some_iff, SlotState.isFree_iff]
  refine and_congr_right fun _ => forall₂_congr fun j _ => ?_
  rw [ne_eq, ← SlotState.isFree_iff, Bool.not_eq_true]

theorem State.lowestFree_eq_none_iff (s : State) : s.lowestFree = none ↔ s.TableFull := by
  simp [State.lowestFree, State.TableFull, List.find?_eq_none, SlotState.isFree_iff]

theorem State.lowestEmpty_eq_some_iff (s : State) (c : CellNo) : s.lowestEmpty = some c ↔ s.LowestEmptyIs c := by
  rw [State.lowestEmpty, find_finRange_eq_some_iff, CellState.isEmpty_iff]
  refine and_congr_right fun _ => forall₂_congr fun j _ => ?_
  rw [ne_eq, ← CellState.isEmpty_iff, Bool.not_eq_true]

theorem State.lowestEmpty_eq_none_iff (s : State) : s.lowestEmpty = none ↔ ∀ c : CellNo, (s.cell c).state ≠ .empty := by
  simp [State.lowestEmpty, List.find?_eq_none, CellState.isEmpty_iff]

/-! ### The grant pass -/

/-- Whatever holds before the walk, and is kept by every grant that meets R99, holds after it. -/
theorem grantWalk_induct (P : State → Prop)
    (hgrant : ∀ (t : State) (c : CellNo) (e : WaitEntry) (r : Reason) (w : Option Nat) (k : SlotNo), P t →
      (t.cell c).state = .waiting e r w → t.LowestFreeIs k → t.mayGrant c e = true → P (t.grantEntry c e k)) :
    ∀ (cs : List CellNo) (s : State), P s → P (grantWalk cs s)
  | [], s, h => h
  | c :: cs, s, h => by
    unfold grantWalk
    split
    · next e r w hc =>
      split
      · exact h
      · next k hk =>
        refine grantWalk_induct P hgrant cs _ ?_
        unfold State.visitEntry
        split
        · next hm => exact hgrant s c e r w k h hc ((s.lowestFree_eq_some_iff k).1 hk) hm
        · exact h
    · exact grantWalk_induct P hgrant cs s h

/-- Whatever holds before a grant pass, and is kept by every grant that meets R99, holds after it. -/
theorem State.grantPass_induct (P : State → Prop)
    (hgrant : ∀ (t : State) (c : CellNo) (e : WaitEntry) (r : Reason) (w : Option Nat) (k : SlotNo), P t →
      (t.cell c).state = .waiting e r w → t.LowestFreeIs k → t.mayGrant c e = true → P (t.grantEntry c e k))
    (s : State) (h : P s) : P s.grantPass :=
  grantWalk_induct P hgrant s.order s h

/-- A grant pass writes slots and cells and nothing else (R100). -/
theorem State.grantPass_frame (s : State) :
    s.grantPass = { s with slots := s.grantPass.slots, cells := s.grantPass.cells } :=
  s.grantPass_induct (fun t => t = { s with slots := t.slots, cells := t.cells })
    (fun t c e _ _ k ht _ _ _ => by
      show t.grantEntry c e k = { s with slots := (t.grantEntry c e k).slots, cells := (t.grantEntry c e k).cells }
      conv_lhs => rw [ht]
      rw [ht]
      rfl) rfl

/-! ### Changes of standing -/

/-- The consequences of a change of standing write interrupt sources and cells and nothing else (R129, R130). -/
theorem State.standingChanged_frame (s : State) (a : AgentNo) (old : Standing) :
    s.standingChanged a old =
      { s with sources := (s.standingChanged a old).sources, cells := (s.standingChanged a old).cells } := by
  unfold State.standingChanged
  split
  · rfl
  · split <;> rfl

theorem State.standingChanged_of_eq (s : State) (a : AgentNo) : s.standingChanged a (s.standing a) = s := by
  simp [State.standingChanged]

/-- A charge, a credit or a change of settings writes the agent's record, interrupt sources and cells (R125, R127, R134). -/
theorem State.updateConduct_frame (s : State) (a : AgentNo) (r : AgentRecord) :
    s.updateConduct a r =
      { s with
        agents := s.agents.set a r
        sources := (s.updateConduct a r).sources
        cells := (s.updateConduct a r).cells } := by
  unfold State.updateConduct
  rw [State.standingChanged_frame]
  rfl

/-! ### Requests, results and RESET -/

theorem State.takeRequest_of_requesting {s : State} {a : AgentNo} {w0 : Word} {kind : Option RequestKind}
    (h : s.Requesting a w0 kind) (serve : AgentNo → Word → State × Answer) :
    s.takeRequest kind serve = (serve a w0).1.withAnswer a (serve a w0).2 := by
  simp [State.takeRequest, h.1, h.2, State.withAnswer]

theorem State.takeRequest_of_not {s : State} {kind : Option RequestKind} (h : ∀ a w0, ¬ s.Requesting a w0 kind)
    (serve : AgentNo → Word → State × Answer) : s.takeRequest kind serve = { s with mack := false } := by
  unfold State.takeRequest
  split
  · next a w0 ht =>
    rw [if_neg]
    exact fun hk => h a w0 ⟨ht, hk⟩
  · rfl

theorem State.unlessReset_of_running {s : State} (h : s.resetHeld = false) (f : State → State) : s.unlessReset f = f s := by
  simp [State.unlessReset, h]

theorem State.unlessReset_of_held {s : State} (h : s.resetHeld = true) (f : State → State) : s.unlessReset f = s := by
  simp [State.unlessReset, h]

/-! ### Lines -/

theorem getLsbD_setLine (lines : Word) (a b : AgentNo) (level : Bool) :
    (setLine lines a level).getLsbD b.val = if a = b then level else lines.getLsbD b.val := by
  have hb := b.isLt
  have hab : a.val = b.val ↔ a = b := Fin.val_inj
  cases level <;> by_cases h : a = b
  · subst h; simp [setLine]
  · have h2 : b.val ≠ a.val := fun e => h (hab.1 e.symm)
    simp [setLine, h, h2]
  · subst h; simp [setLine]
  · have h2 : b.val ≠ a.val := fun e => h (hab.1 e.symm)
    simp [setLine, h, h2]

/-! ### The conflict relation -/

theorem GranuleRange.intersects_comm (r q : GranuleRange) : r.intersects q = q.intersects r := by
  simp only [GranuleRange.intersects, Bool.and_comm]

theorem Claim.conflicts_comm (a b : Claim) : a.conflicts b = b.conflicts a := by
  simp only [Claim.conflicts, GranuleRange.intersects_comm a.range b.range, ne_comm (a := a.owner), Bool.or_comm a.mode.excludes]

end Sys2Proof.Machine
end

