-- ==== Sys2Proof/Laws/Conditions.lean ====
section
/-! SUPPORT. The tests the commands make, as the conditions of Safety.lean say them: one equivalence for each. -/

set_option Elab.async false

namespace Sys2Proof.Machine

/-! ### Sweeps -/

theorem SweepRecord.fallsOn_iff (s : State) (a : AgentNo) (r : GranuleRange) :
    s.sweep.fallsOn a r = true ↔ s.SweepMatches a r := by
  simp only [SweepRecord.fallsOn, SweepRecord.active?]
  cases h : s.sweep.status <;> cases hk : s.sweep.kind with
  | none => simp [State.SweepMatches, State.SweepObstacle, h, hk]
  | some x => cases x <;> simp [State.SweepObstacle, State.SweepMatches, h, hk]

theorem SweepRecord.refusesAcquire_iff (s : State) (a : AgentNo) (r : GranuleRange) :
    s.sweep.refusesAcquire a r = true ↔ s.SweepRefuses a r := by
  simp only [SweepRecord.refusesAcquire, SweepRecord.active?]
  cases h : s.sweep.status <;> cases hk : s.sweep.kind with
  | none => simp [State.SweepRefuses, h, hk]
  | some x => cases x <;> simp [State.SweepRefuses, h, hk]

theorem State.fencedAgainst_iff (s : State) (a : AgentNo) (m : ClaimMode) (r : GranuleRange) :
    s.fencedAgainst ⟨.agent a, m, r⟩ = true ↔ s.SweepObstacle r := by
  simp only [State.fencedAgainst, SweepRecord.fence?, SweepRecord.active?]
  cases h : s.sweep.status <;> cases hk : s.sweep.kind with
  | none => simp [State.SweepObstacle, h, hk]
  | some x => cases x <;> simp [State.SweepObstacle, h, hk, Claim.conflicts, ClaimMode.excludes]

/-! ### Acquisitions and renewals -/

theorem State.conflictObstacle_iff (s : State) (q : Claim) :
    (s.heldAgainst q || s.waitedAgainst q) = true ↔ s.ConflictObstacle q := by
  rw [State.ConflictObstacle, ← State.heldAgainst_eq_false_iff, ← State.waitedAgainst_eq_false_iff]
  cases s.heldAgainst q <;> cases s.waitedAgainst q <;> simp

theorem State.malformedAcquire_eq_false_iff (s : State) (q : AcquireFields) :
    s.malformedAcquire q = false ↔ ∃ m, s.AcquireInRange q m := by
  simp only [State.malformedAcquire, GranuleRange.wellFormed]
  cases h : q.mode <;> simp [h]
  tauto

theorem State.serveAcquire_of_goesOn {s : State} {a : AgentNo} {w0 : Word} {q : AcquireFields} {m : LeaseMode}
    (h : s.AcquireGoesOn a w0 q m) : s.serveAcquire a q = s.acquireOrWait (q.entry a m) q.waitLimit := by
  obtain ⟨_, hi, hb, ha, hs, hl⟩ := h
  have hf := (s.malformedAcquire_eq_false_iff q).2 ⟨m, hi⟩
  rw [← SweepRecord.refusesAcquire_iff] at hs
  have hmode := hi.1
  simp [State.serveAcquire, hf, hmode, hb, ha, hs, Nat.not_le.2 hl]

theorem State.renewsButForSweep_iff (s : State) (l : AgentLease) :
    s.renewsButForSweep l = true ↔ s.RenewsButForSweep l := by
  simp only [State.renewsButForSweep, State.RenewsButForSweep, ← State.waitedAgainst_eq_false_iff]
  simp [and_assoc]

/-! ### Lookups -/

theorem State.someSlot_iff (s : State) (p : SlotState → Bool) : s.someSlot p = true ↔ ∃ k, p (s.slot k).state = true := by
  simp only [State.someSlot, List.any_eq_true, Vector.mem_toList_iff, Vector.mem_iff_getElem, State.slot]
  constructor
  · rintro ⟨x, ⟨i, hi, rfl⟩, h⟩
    exact ⟨⟨i, hi⟩, h⟩
  · rintro ⟨k, h⟩
    exact ⟨_, ⟨k.val, k.isLt, rfl⟩, h⟩

theorem State.fenceOn_iff (s : State) (g : Word) : s.someSlot (SlotState.fenceOn g) = true ↔ s.FenceOn g := by
  rw [State.someSlot_iff]
  refine exists_congr fun k => ?_
  cases h : (s.slot k).state <;> simp [SlotState.fenceOn]

theorem State.heldOn_iff (s : State) (a : AgentNo) (m : LeaseMode) (g : Word) :
    s.someSlot (SlotState.heldOn a m g) = true ↔ s.HeldOn a m g := by
  rw [State.someSlot_iff]
  refine exists_congr fun k => ?_
  cases h : (s.slot k).state <;> simp [SlotState.heldOn, and_assoc]

theorem State.otherOn_iff (s : State) (a : AgentNo) (m : LeaseMode) (g : Word) :
    s.someSlot (SlotState.otherOn a m g) = true ↔ s.OtherOn a m g := by
  rw [State.someSlot_iff]
  refine exists_congr fun k => ?_
  cases h : (s.slot k).state <;> simp [SlotState.otherOn, and_assoc, SlotState.holding?]

theorem State.ownIdleOn_iff (s : State) (a : AgentNo) (g : Word) :
    s.someSlot (SlotState.ownIdleOn a g) = true ↔ s.OwnIdleOn a g := by
  rw [State.someSlot_iff]
  refine exists_congr fun k => ?_
  cases h : (s.slot k).state <;> simp [SlotState.ownIdleOn]

theorem openPartition_eq_none_iff (map : Vector Partition 8) (a : AgentNo) (g : Word) :
    openPartition map a g = none ↔ ∀ i : Fin 8, map[i].admits a g = false := by
  simp only [openPartition, List.find?_eq_none, Vector.mem_toList_iff, Vector.mem_iff_getElem]
  constructor
  · intro h i
    simpa using h _ ⟨i.val, i.isLt, rfl⟩
  · rintro h _ ⟨i, hi, rfl⟩
    simpa using h ⟨i, hi⟩

/-! ### Lookups that wait -/

theorem CheckAnswer.charges_eq_false_iff (x : CheckAnswer) : x.charges = false ↔ x = .allow ∨ x = .deny .offline := by
  cases x with
  | allow => simp [CheckAnswer.charges]
  | deny d => cases d <;> simp [CheckAnswer.charges]

theorem State.takeLookup_eq (s : State) (l : Lookup) :
    s.takeLookup l = s.withLookupTaken l (s.decideAccess l.agent (s.granuleOf l.addr) l.kind) := by
  simp only [State.takeLookup, State.withLookupTaken, ← CheckAnswer.charges_eq_false_iff]
  cases (s.decideAccess l.agent (s.granuleOf l.addr) l.kind).charges <;> rfl

theorem State.takePresented_of_none {s : State} (h : s.presented = none) : s.takePresented = s := by
  simp [State.takePresented, h]

/-- While RESET is held the lookup presented is answered DENY OFFLINE, without a charge (R183). -/
theorem State.takePresented_of_reset {s : State} {l : Lookup} (hr : s.resetHeld = true) (h : s.presented = some l) :
    s.takePresented = { s with presented := none, ckAnswer := some (.deny .offline) } := by
  simp [State.takePresented, h, hr]

/-- Outside RESET no lookup is taken while 8 charges are queued (R126). -/
theorem State.takePresented_of_full {s : State} (hr : s.resetHeld = false) (h : 8 ≤ s.charges.length) : s.takePresented = s := by
  have hroom : s.chargeRoom = false := decide_eq_false (Nat.not_lt.2 h)
  unfold State.takePresented
  split
  · rfl
  · simp [hr, hroom]

/-- Outside RESET, with room in the charge queue, the lookup presented is taken (R126, R137). -/
theorem State.takePresented_of_room {s : State} {l : Lookup} (hr : s.resetHeld = false) (hc : s.charges.length < 8)
    (h : s.presented = some l) :
    s.takePresented = s.withLookupTaken l (s.decideAccess l.agent (s.granuleOf l.addr) l.kind) := by
  have hroom : s.chargeRoom = true := decide_eq_true hc
  simp [State.takePresented, h, hr, hroom, State.takeLookup_eq]

/-- While a lookup stands presented, or none waits, CK_VALID does not rise (R137). -/
theorem State.presentNext_of_noRise {s : State} (h : s.presented ≠ none ∨ s.heldLookups = []) : s.presentNext = s := by
  unfold State.presentNext
  split
  · next h1 h2 => rcases h with h | h <;> simp_all
  · rfl

theorem State.presentNext_of_rise {s : State} {l : Lookup} {more : List Lookup} (hp : s.presented = none)
    (h : s.heldLookups = l :: more) :
    s.presentNext = State.takePresented { s with presented := some l, heldLookups := more, ckAnswer := none } := by
  simp [State.presentNext, hp, h]

/-- With no command waiting and the answer before still shown, CK_DONE falls before the next rise of CK_VALID (R188). -/
theorem State.pollCheckPort_of_answer {s : State} {x : CheckAnswer} (hp : s.presented = none) (h : s.heldLookups ≠ [])
    (ha : s.ckAnswer = some x) : s.pollCheckPort = { s with ckAnswer := none } := by
  obtain ⟨l, more, hl⟩ := List.exists_cons_of_ne_nil h
  simp [State.pollCheckPort, hp, hl, ha]

theorem State.pollCheckPort_of_noAnswer {s : State} (h : s.presented ≠ none ∨ s.heldLookups = [] ∨ s.ckAnswer = none) :
    s.pollCheckPort = s.presentNext := by
  unfold State.pollCheckPort
  split <;> simp_all

/-! ### Ports, codes and standing -/

theorem State.presentAgent_of_present {s : State} {a : AgentNo} (h : s.params[0].toNat = a.val) (hp : s.port a ≠ .absent) :
    s.presentAgent = some a := by
  have hlt : s.params[0].toNat < 32 := by rw [h]; exact a.isLt
  have hn : numberOf 32 s.params[0] = some a := by
    simp only [numberOf, hlt, dif_pos]
    exact congrArg some (Fin.ext h)
  simp [State.presentAgent, hn, hp]

theorem arbiterClassOf_eq_some_iff (n : Nat) (c : ArbiterClass) : arbiterClassOf n = some c ↔ n = c.code := by
  unfold arbiterClassOf
  split <;> cases c <;> simp_all [ArbiterClass.code]

theorem scoreClassOf_eq_some_iff (n : Nat) (c : ScoreClass) : scoreClassOf n = some c ↔ n = c.code := by
  unfold scoreClassOf
  split <;> cases c <;> simp_all [ScoreClass.code]

theorem conductParams_eq_none_iff (ps : Vector Word 6) :
    conductParams ps = none ↔ settingsParam ps[2] = none ∨ settingsParam ps[3] = none ∨ settingsParam ps[4] = none := by
  unfold conductParams
  cases settingsParam ps[2] <;> cases settingsParam ps[3] <;> cases settingsParam ps[4] <;> simp

theorem State.standing_standingChanged (s : State) (a b : AgentNo) (old : Standing) :
    (s.standingChanged a old).standing b = s.standing b := by
  rw [State.standingChanged_frame]
  rfl

/-- An event whose only change to the cells is a derivation of the agent's standing makes some entry leave WAITING exactly when it bars
an agent that waits (R98, R130). -/
theorem someLeftWaiting_iff_barsWaiter (s m u : State) (a : AgentNo) (hm : m.cells = s.cells)
    (hu : u.cells = (m.standingChanged a (s.standing a)).cells) (hst : u.standing a = m.standing a) :
    someLeftWaiting s u = true ↔ s.BarsWaiter u a := by
  have hcell : ∀ c, m.cell c = s.cell c := State.cell_congr hm
  simp only [someLeftWaiting, State.BarsWaiter, State.HasWaiting, hst, List.any_eq_true, List.mem_finRange, true_and,
    Bool.and_eq_true, State.cell_congr hu]
  unfold State.standingChanged
  by_cases h1 : m.standing a = s.standing a
  · rw [if_pos h1]
    simp only [hcell]
    constructor
    · rintro ⟨c, h2, h3⟩
      cases h : (s.cell c).state.waiting? <;> simp_all
    · rintro ⟨_, h2, h3⟩
      exact absurd (h1 ▸ h3) h2
  · rw [if_neg h1]
    cases h2 : m.standing a with
    | good =>
      simp only [hcell]
      constructor
      · rintro ⟨c, h3, h4⟩
        cases h : (s.cell c).state.waiting? <;> simp_all
      · rintro ⟨_, _, h4⟩
        cases h4
    | advised =>
      simp only [State.cell_raise, hcell]
      constructor
      · rintro ⟨c, h3, h4⟩
        cases h : (s.cell c).state.waiting? <;> simp_all
      · rintro ⟨_, _, h4⟩
        cases h4
    | barred =>
      simp only [State.cell_readyWhere, State.cell_raise, hcell, WaitCell.waiting_readied]
      rw [h2] at h1
      have h3 : s.standing a ≠ .barred := fun e => h1 e.symm
      simp only [h3, ne_eq, not_false_eq_true, and_self, and_true]
      refine exists_congr fun c => ?_
      cases h : (s.cell c).state.waiting? with
      | none => simp
      | some e => simp [Option.filter]

end Sys2Proof.Machine
end

