-- ==== Sys2Proof/Laws/PerInstr.lean ====
section
/-! SUPPORT. One fact for each command of the table: its form, its request kind, its command code. -/

set_option Elab.async false

namespace Sys2Proof.Laws.Form

/-- A command is of at most one of the two forms that carry a number: a request of one of the kinds of R68, or a host command with
a code from 1 to 18 (13.2); and every command that carries such a number is well formed. -/
def Statement (i : Instr) : Prop :=
  (i.requestRow.isSome → i.commandCode = none) ∧ (∀ n ∈ i.commandCode, knownCommandCode (BitVec.ofNat 8 n) = true) ∧
    (i.requestRow.isSome ∨ i.commandCode.isSome → i.wellFormed = true)

theorem of_request {i : Instr} {k : Option Machine.RequestKind} (_hr : i.requestRow = some k) (hc : i.commandCode = none)
    (hw : i.wellFormed = true) : Statement i :=
  ⟨fun _ => hc, fun n hn => by rw [hc] at hn; exact absurd hn (Option.not_mem_none n), fun _ => hw⟩

theorem of_host {i : Instr} (n : Nat) (hc : i.commandCode = some n) (hr : i.requestRow = none)
    (hn : knownCommandCode (BitVec.ofNat 8 n) = true) (hw : i.wellFormed = true) : Statement i :=
  ⟨fun h => by rw [hr] at h; exact absurd h (by decide), fun m hm => by rw [hc] at hm; cases hm; exact hn, fun _ => hw⟩

theorem of_other {i : Instr} (hc : i.commandCode = none) (hr : i.requestRow = none) : Statement i :=
  ⟨fun _ => hc, fun n hn => by rw [hc] at hn; exact absurd hn (Option.not_mem_none n),
    fun h => by rw [hr, hc] at h; exact absurd h (by decide)⟩

theorem acquire (w1 w2 w3 : Word) : Statement (.acquire w1 w2 w3) := of_request rfl rfl rfl

theorem renew (w1 w2 w3 : Word) : Statement (.renew w1 w2 w3) := of_request rfl rfl rfl

theorem release (w1 w2 w3 : Word) : Statement (.release w1 w2 w3) := of_request rfl rfl rfl

theorem poll (w1 w2 w3 : Word) : Statement (.poll w1 w2 w3) := of_request rfl rfl rfl

theorem withdraw (w1 w2 w3 : Word) : Statement (.withdraw w1 w2 w3) := of_request rfl rfl rfl

theorem unknownRequest (w1 w2 w3 : Word) : Statement (.unknownRequest w1 w2 w3) := of_request rfl rfl rfl

theorem arbiterChoice (req : Word) : Statement (.arbiterChoice req) := of_other rfl rfl

theorem tenureEnd : Statement .tenureEnd := of_other rfl rfl

theorem tenureLimitExpiry : Statement .tenureLimitExpiry := of_other rfl rfl

theorem attach (a : AgentNo) : Statement (.attach a) := of_other rfl rfl

theorem detach (a : AgentNo) : Statement (.detach a) := of_other rfl rfl

theorem powerOn (granule64 : Bool) (agentsCode : BitVec 2) (attach : Word) : Statement (.powerOn granule64 agentsCode attach) := of_other rfl rfl

theorem termExpiry (k : SlotNo) : Statement (.termExpiry k) := of_other rfl rfl

theorem holdExpiry (k : SlotNo) : Statement (.holdExpiry k) := of_other rfl rfl

theorem waitLimitExpiry (c : CellNo) : Statement (.waitLimitExpiry c) := of_other rfl rfl

theorem collectionExpiry (c : CellNo) : Statement (.collectionExpiry c) := of_other rfl rfl

theorem lookup (a : AgentNo) (addr : BitVec 40) (kind : AccessKind) : Statement (.lookup a addr kind) := of_other rfl rfl

theorem trespassCharge : Statement .trespassCharge := of_other rfl rfl

theorem visit : Statement .visit := of_other rfl rfl

theorem freeze : Statement .freeze := of_host 1 rfl rfl rfl rfl

theorem thaw : Statement .thaw := of_host 2 rfl rfl rfl rfl

theorem setAgent : Statement .setAgent := of_host 3 rfl rfl rfl rfl

theorem clearAgent : Statement .clearAgent := of_host 4 rfl rfl rfl rfl

theorem startSweep : Statement .startSweep := of_host 5 rfl rfl rfl rfl

theorem abortSweep : Statement .abortSweep := of_host 6 rfl rfl rfl rfl

theorem loadProfile : Statement .loadProfile := of_host 7 rfl rfl rfl rfl

theorem lock : Statement .lock := of_host 8 rfl rfl rfl rfl

theorem clearAll : Statement .clearAll := of_host 9 rfl rfl rfl rfl

theorem readLease : Statement .readLease := of_host 10 rfl rfl rfl rfl

theorem readWait : Statement .readWait := of_host 11 rfl rfl rfl rfl

theorem readAgent : Statement .readAgent := of_host 12 rfl rfl rfl rfl

theorem readSweep : Statement .readSweep := of_host 13 rfl rfl rfl rfl

theorem dropSnapshot : Statement .dropSnapshot := of_host 14 rfl rfl rfl rfl

theorem fenceSet : Statement .fenceSet := of_host 15 rfl rfl rfl rfl

theorem fenceClear : Statement .fenceClear := of_host 16 rfl rfl rfl rfl

theorem revoke : Statement .revoke := of_host 17 rfl rfl rfl rfl

theorem cancelTicket : Statement .cancelTicket := of_host 18 rfl rfl rfl rfl

theorem unknownCommand (code : BitVec 8) : Statement (.unknownCommand code) := of_other rfl rfl

theorem closingRead : Statement .closingRead := of_other rfl rfl

theorem enableWrite (data : Word) : Statement (.enableWrite data) := of_other rfl rfl

theorem globalEnableWrite (on : Bool) : Statement (.globalEnableWrite on) := of_other rfl rfl

theorem elevateWrite (field : BitVec 4) : Statement (.elevateWrite field) := of_other rfl rfl

theorem acknowledge (data : Word) : Statement (.acknowledge data) := of_other rfl rfl

theorem registerWrite (addr : BitVec 6) (data : Word) : Statement (.registerWrite addr data) := of_other rfl rfl

theorem firstRequestWord (w0 : Word) : Statement (.firstRequestWord w0) := of_other rfl rfl

theorem resetHeld : Statement .resetHeld := of_other rfl rfl

end Sys2Proof.Laws.Form
end

