-- ==== Sys2Proof/Tests/Slice0.lean ====
section
/-! SUPPORT. The smoke tests of WellFormed, single steps of the manual's worked sequences, and for every statement with hypotheses a
state and operands that meet them, clause by clause. -/

set_option Elab.async false

namespace Sys2Proof.Tests

open Sys2Proof.Machine

/-! ### Small states -/

/-- Power-on with 32 ports, every port ATTACHED. -/
def base : State := { State.reset with agentsCode := 2, attach := 0xFFFFFFFF }

def lease (a : AgentNo) (m : LeaseMode) (first last : Word) : AgentLease := ⟨a, m, ⟨first, last⟩, 20, true, 4, 4⟩

def entry (a : AgentNo) (m : LeaseMode) (first last : Word) : WaitEntry := ⟨a, m, ⟨first, last⟩, 30, false, 2⟩

/-- Slot 0 holds agent 1's HELD EXCLUSIVE lease on 10..19. -/
def held : State := base.setSlotState 0 (.held (lease 1 .exclusive 10 19) 20000)

/-- The same state with agent `a`'s request under way, request word 0 received. -/
def asked (s : State) (a : AgentNo) (w0 : Word) : State := { s with tenure := some ⟨a, .requesting w0⟩ }

/-- Cell `c` holds this, at the tail of the list. -/
def listed (s : State) (c : CellNo) (x : CellState) : State := { s.setCellState c x with order := s.order ++ [c] }

/-- A sweep is IN_PROGRESS. -/
def swept (s : State) (k : SweepKind) (next : Nat) : State := { s with sweep := ⟨.inProgress, some k, next, 0, 9⟩ }

/-- Agent `a`'s TRESPASS has this value. -/
def trespassed (s : State) (a : AgentNo) (value : Nat) (settings : ScoreSettings) : State :=
  s.setAgent a { powerOnAgent with trespass := ⟨value, 0, settings⟩ }

/-- Agent `a` is BARRED. -/
def barred (s : State) (a : AgentNo) : State := trespassed s a 40 ⟨40, 2, .barring⟩

/-- Parameter words 0 to 4 as written. -/
def given (s : State) (p0 p1 p2 p3 p4 : Word) : State := { s with params := #v[p0, p1, p2, p3, p4, 0] }

/-- The outcome is a next state that satisfies `p`. -/
def answers (o : Host.Outcome State Fault Refusal) (p : State → Bool) : Bool :=
  match o with
  | .next t => p t
  | _ => false

/-- No sweep turns this ACQUIRE away. -/
theorem notRefused {s : State} {a : AgentNo} {r : GranuleRange} (h : s.sweep.refusesAcquire a r = false) : ¬ s.SweepRefuses a r := by
  rw [← SweepRecord.refusesAcquire_iff, h]; exact Bool.false_ne_true

/-- No sweep matches this lease. -/
theorem notMatched {s : State} {a : AgentNo} {r : GranuleRange} (h : s.sweep.fallsOn a r = false) : ¬ s.SweepMatches a r := by
  rw [← SweepRecord.fallsOn_iff, h]; exact Bool.false_ne_true

/-- No sweep stands in the way of this range. -/
theorem notSwept {s : State} {r : GranuleRange} (h : s.sweep.status ≠ .inProgress) : ¬ s.SweepObstacle r := fun x => h x.1

/-! ### Commands of the form their row gives -/

theorem test_unknownCommand_illFormed : (Instr.unknownCommand 1).wellFormed = false ∧ (Instr.unknownCommand 18).wellFormed = false ∧
    (Instr.unknownCommand 0).wellFormed = true ∧ (Instr.unknownCommand 19).wellFormed = true := by decide

theorem test_registerWrite_illFormed : (Instr.registerWrite 1 0).wellFormed = false ∧ (Instr.registerWrite 57 0).wellFormed = false ∧
    (Instr.registerWrite 58 0).wellFormed = false ∧ (Instr.registerWrite 60 0).wellFormed = false ∧
    (Instr.registerWrite 2 0).wellFormed = true ∧ (Instr.registerWrite 55 0).wellFormed = true := by decide

theorem test_noWordSpellsACommand : decodeTableWord 32 0 = none := rfl

/-! ### Steps of the worked sequences -/

/-- 12.1, time 0: GRANTED (0, 0), 20. -/
theorem test_acquire_granted : answers (execAcquire 10 19 20 (asked base 1 0x11)) (fun t =>
    (t.slot 0).state == .held ⟨1, .exclusive, ⟨10, 19⟩, 20, false, 0, 0⟩ 20000 && t.tenure == some ⟨1, .answered 0 20⟩) = true := by
  decide +kernel

/-- 12.1, 0.1 ms: DEFERRED (0, 0), position 0, wait left 100. -/
theorem test_acquire_deferred : answers (execAcquire 12 13 (100 * 65536 + 30) (asked held 2 0x01)) (fun t =>
    (t.cell 0).state == .waiting ⟨2, .shared, ⟨12, 13⟩, 30, false, 0⟩ .conflict (some 100000) && t.order == [0] &&
      t.tenure == some ⟨2, .answered 1 0⟩) = true := by decide +kernel

/-- 12.1 at 2.0 ms: two entries wait for slot 0's range. -/
def contended : State := listed (listed held 0 (.waiting (entry 2 .shared 12 13) .conflict (some 81000))) 1
  (.waiting (entry 3 .exclusive 15 15) .conflict none)

/-- 12.1, order A: the release frees slot 0 and the pass grants both entries. -/
theorem test_release_grants : answers (execRelease 0 0 0 (asked contended 1 3)) (fun t =>
    t.slot 0 == ⟨1, .reserved (entry 2 .shared 12 13).lease 0⟩ && t.slot 1 == ⟨0, .reserved (entry 3 .exclusive 15 15).lease 1⟩ &&
      (t.cell 0).state == .granted (entry 2 .shared 12 13) 32000 0 &&
      (t.cell 1).state == .granted (entry 3 .exclusive 15 15) 32000 1 && t.tenure == some ⟨1, .answered 3 0⟩) = true := by
  decide +kernel

/-- 12.1, order B: the lapse, its hold of 16, its charge and its event. -/
theorem test_lapse_charges : answers (execTermExpiry 0 { held with slots := held.slots.set 0 ⟨0, .held ⟨1, .exclusive, ⟨10, 19⟩, 20, false, 0, 0⟩ 0⟩ })
    (fun t => (t.slot 0).state == .lapsed ⟨1, .exclusive, ⟨10, 19⟩, 20, false, 0, 0⟩ 16000 &&
      (t.agent 1).overstay == ⟨90, 1, ⟨40, 10, .barring⟩⟩ && t.sources[1] == ⟨true, 0, false⟩ && t.standing 1 == .good) = true := by
  decide +kernel

/-- 12.1, 3.0 ms: the collection, answered GRANTED (0, 1), 30: handle 0 + 1 * 128 in bits 23..8. -/
theorem test_poll_collects : answers (execPoll 0 0 0 (asked (listed (base.setSlot 0 ⟨1, .reserved (entry 2 .shared 12 13).lease 0⟩) 0
    (.granted (entry 2 .shared 12 13) 23000 0)) 2 4)) (fun t =>
      t.slot 0 == ⟨1, .held (entry 2 .shared 12 13).lease 30000⟩ && t.cell 0 == ⟨1, .empty⟩ && t.order == [] &&
        t.tenure == some ⟨2, .answered 0x8000 30⟩) = true := by decide +kernel

/-- 12.3, line 8: the charge that reaches the threshold bars the agent and readies its entry. -/
theorem test_trespass_bars : answers (execTrespassCharge { listed (trespassed base 14 75 ⟨70, 5, .barring⟩) 12
    (.waiting (entry 14 .shared 12 13) .conflict none) with charges := [14] }) (fun t =>
      t.standing 14 == .barred && (t.cell 12).state == .ended (entry 14 .shared 12 13) .barred 32000 &&
        t.sources[0] == ⟨true, 14, false⟩ && t.charges == []) = true := by decide +kernel

/-- 12.4, steps 7 and 8: the visit of slot 30 revokes the LAPSED lease; tenths 7. -/
theorem test_visit_revokes : answers (execVisit (swept (base.setSlotState 30 (.lapsed (lease 20 .shared 5 6) 3000)) (.agent 20) 30))
    (fun t => (t.slot 30).state == .revoked (lease 20 .shared 5 6) 16000 && t.sweep == ⟨.inProgress, some (.agent 20), 31, 1, 7⟩) =
      true := by decide +kernel

/-- Chapter 12, second exercise: READ of granule 12 in agent 1's LAPSED EXCLUSIVE lease is denied HELD_BY_OTHER and charged. -/
theorem test_lookup_lapsedOfOther : answers (execLookup 2 (12 * 4096 + 5) .read (base.setSlotState 0 (.lapsed (lease 1 .exclusive 10 19) 11000)))
    (fun t => t.ckAnswer == some (.deny .heldByOther) && t.charges == [2]) = true := by decide +kernel

/-- 1.1: byte address 12345678h lies in granule 12345h, or 1234h with 64 KiB granules. -/
theorem test_granules : base.granuleOf 0x12345678 = 0x12345 ∧ State.granuleOf { base with granule64 := true } 0x12345678 = 0x1234 ∧
    base.granuleOf 0xFFFFFFFFFF = 0x0FFFFFFF := by decide

/-- 13.6, the exercise: the answer to a grant of slot 6 at generation 4. -/
theorem test_answerWord : Answer.word0 ⟨.granted, (Handle.mk 6 4).bits, 20⟩ = 0x20600 := by decide

/-- A term of one tenth of a unit is run out after ten idle microseconds at unit 100 µs, and its expiry then waits in the queue. -/
theorem test_tick : answers (step (base.setSlotState 5 (.held (lease 1 .shared 1 2) 10))) (fun t =>
    (t.slot 5).state == .held (lease 1 .shared 1 2) 0 && t.pending == [.termExpiry 5]) = true := by decide +kernel

/-! ### The hypotheses of the statements are met: time, ports and the bus -/

/-- Two lookups wait. -/
def queued : List Lookup := [⟨4, 0, .read⟩, ⟨5, 0, .read⟩]

theorem test_witness_IdleStepPassesOneMicrosecond : base.pending = [] ∧ base.resetHeld = false ∧ base.frozen = false ∧
    (base.unitCode = 2 ∧ (10 : Nat) = 10) ∧ (∀ a n, base.tenure ≠ some ⟨a, .awaitingFirst n⟩) ∧
    (∀ b p ls x, ∃ s : State, s.pending = [] ∧ s.resetHeld = b ∧ s.presented = p ∧ s.heldLookups = ls ∧ s.ckAnswer = x) ∧
    (∀ n, ∃ s : State, s.pending = [] ∧ s.resetHeld = false ∧ s.presented = none ∧ s.heldLookups = queued ∧ s.ckAnswer = none ∧
      s.charges.length = n) ∧
    ∀ u : BitVec 2, ∃ s : State, s.pending = [] ∧ s.resetHeld = false ∧ s.unitCode = u ∧ s.frozen = true ∧
      s.tenure = some ⟨31, .awaitingFirst 1⟩ :=
  ⟨rfl, rfl, rfl, ⟨rfl, rfl⟩, fun _ _ h => (by cases h), 
    fun b p ls x => ⟨{ base with resetHeld := b, presented := p, heldLookups := ls, ckAnswer := x }, rfl, rfl, rfl, rfl, rfl⟩,
    fun n => ⟨{ base with heldLookups := queued, charges := List.replicate n 3 }, rfl, rfl, rfl, rfl, rfl, List.length_replicate⟩,
    fun u => ⟨{ base with unitCode := u, frozen := true, tenure := some ⟨31, .awaitingFirst 1⟩ }, rfl, rfl, rfl, rfl, rfl⟩⟩

/-- The part from the assertion of RESET on, with these lookups waiting. -/
def silent (ls : List Lookup) : State := { State.reset with resetHeld := true, heldLookups := ls }

theorem test_witness_ResetSilencesThePart : (Instr.freeze.commandCode.isSome = true ∧ Instr.cancelTicket.commandCode.isSome = true) ∧
    (∀ ls, (silent ls).resetHeld = true ∧ (silent ls).QuietUnderReset ∧ (silent ls).presented = none ∧ (silent ls).heldLookups = ls) ∧
    (∃ s : State, s.resetHeld = true ∧ s.presented = some ⟨4, 0, .read⟩) ∧ (Instr.poll 0 0 0).requestRow = some (some .poll) := by
  refine ⟨by decide, fun ls => ⟨rfl, fun _ => ?_, rfl, rfl⟩, ⟨{ silent [] with presented := some ⟨4, 0, .read⟩ }, rfl, rfl⟩, rfl⟩
  have h : (∀ k, (State.reset.slot k).state = .free) ∧ ∀ c, (State.reset.cell c).state = .empty := by decide +kernel
  exact ⟨rfl, rfl, rfl, rfl, rfl, rfl, h⟩

/-- While RESET is held the oldest lookup that waits is answered, and CK_DONE falls before the next is. -/
theorem test_reset_answersOldest : step (silent queued) = .next { silent [⟨5, 0, .read⟩] with ckAnswer := some (.deny .offline) } ∧
    step { silent queued with ckAnswer := some (.deny .offline) } = .next (silent queued) := ⟨rfl, rfl⟩

theorem test_witness_PortsFollowStrapsAndLines : base.agentsCode = 2 ∧ base.port 31 ≠ .absent ∧ base.port 31 = .attached ∧
    (∃ s : State, s.agentsCode = 0 ∧ s.port 7 = .detached ∧ s.port 8 = .absent) ∧
    (∃ s : State, s.agentsCode = 1 ∧ s.port 15 = .detached ∧ s.port 16 = .absent) ∧
    ∃ s : State, s.agentsCode = 3 ∧ s.port 31 = .detached :=
  ⟨rfl, by decide, by decide, ⟨{ base with agentsCode := 0, attach := 0 }, by decide⟩,
    ⟨{ base with agentsCode := 1, attach := 0 }, by decide⟩, { base with agentsCode := 3, attach := 0 }, by decide⟩

theorem test_witness_DetachFreesAndEmpties : base.resetHeld = false ∧ base.port 31 = .attached ∧
    (∀ p, base.tenure ≠ some ⟨31, p⟩) ∧ (asked held 1 3).tenure = some ⟨1, .requesting 3⟩ ∧ (asked held 1 3).port 1 = .attached ∧
    State.port { base with attach := 0 } 0 ≠ .attached :=
  ⟨rfl, by decide, fun _ h => (by cases h), rfl, by decide, by decide⟩

/-- Every agent HIGH. -/
def allHigh : State := { base with agents := Vector.replicate 32 { powerOnAgent with arbiterClass := .high }, rotation := 1 }

theorem test_witness_ArbiterChoosesByRotation : base.resetHeld = false ∧ base.tenure = none ∧
    State.ChosenHigh { allHigh with req := 0x80000001 } 31 ∧ State.ChosenHigh { allHigh with req := 1 } 0 ∧
    State.ChosenLow { base with req := 0x80000000 } 31 ∧ State.ChosenLow { base with req := 3, lowPointer := 1 } 1 ∧
    State.ChosenLow { base with req := 1, lowPointer := 1 } 0 ∧
    (∀ a, State.contends { base with req := 0 } .high a = false ∧ State.contends { base with req := 0 } .low a = false) ∧
    (asked base 1 3).tenure ≠ none := by
  and_intros <;> decide +kernel

theorem test_witness_TransfersOfATenure : (∀ n, ∃ s : State, s.tenure = some ⟨31, .awaitingFirst n⟩) ∧
    (∃ s : State, s.tenure = some ⟨0, .answered 7 8⟩) ∧ base.tenure = none ∧ (asked base 31 3).tenure = some ⟨31, .requesting 3⟩ ∧
    (Instr.release 0 0 0).requestRow = some (some .release) ∧ (∀ a w0, ¬ base.Requesting a w0 (some .release)) ∧
    (∀ a w0, ¬ (asked base 31 4).Requesting a w0 (some .release)) ∧ (∀ a n, base.tenure ≠ some ⟨a, .awaitingFirst n⟩) ∧
    (∀ a x y, base.tenure ≠ some ⟨a, .answered x y⟩) :=
  ⟨fun n => ⟨{ base with tenure := some ⟨31, .awaitingFirst n⟩ }, rfl⟩, ⟨{ base with tenure := some ⟨0, .answered 7 8⟩ }, rfl⟩, rfl, rfl, rfl,
    fun _ _ h => (by cases h.1), fun _ _ h => (by cases h.1; exact absurd h.2 (by decide)), fun _ _ h => (by cases h),
    fun _ _ _ h => (by cases h)⟩

theorem test_witness_UnknownRequestAndFieldPlaces : (asked base 31 6).tenure = some ⟨31, .requesting 6⟩ ∧
    ((0 : Word).extractLsb' 0 4).toNat ∉ [1, 2, 3, 4, 5] ∧ ((6 : Word).extractLsb' 0 4).toNat ∉ [1, 2, 3, 4, 5] ∧
    ((15 : Word).extractLsb' 0 4).toNat ∉ [1, 2, 3, 4, 5] := by decide

/-- 13.3: an EXCLUSIVE auto ACQUIRE with allowance 4, and the handle and ticket at the ends of their ranges. -/
theorem test_fieldPlaces : acquireFields 0x451 10 19 0x640014 = ⟨some .exclusive, true, 4, ⟨10, 19⟩, 20, 100⟩ ∧
    handleOf 0x7FFF = ⟨127, 255⟩ ∧ ticketOf 0x3FFF = ⟨63, 255⟩ := by decide

theorem test_witness_AnswersStandUntilRead : ∃ s t : State, s.tenure = some ⟨1, .answered 7 8⟩ ∧ exec .clearAll s = .next t ∧
    Instr.clearAll ≠ .tenureEnd ∧ Instr.clearAll ≠ .detach 1 ∧ Instr.clearAll ≠ .resetHeld ∧ ∀ g n l, Instr.clearAll ≠ .powerOn g n l :=
  ⟨{ base with tenure := some ⟨1, .answered 7 8⟩ }, _, rfl, rfl, by decide, by decide, by decide, fun _ _ _ h => by cases h⟩

/-! ### The hypotheses of the statements are met: requests -/

/-- An EXCLUSIVE ACQUIRE of 10..19 with term 20 and this wait limit. -/
def want (limit : Word) : AcquireFields := acquireFields 0x411 10 19 (limit * 65536 + 20)

/-- No partition is valid. -/
def unmapped : State := { base with map := Vector.replicate 8 powerOnInvalidEntry }

/-- Agent 1 may own no slot. -/
def limited : State := base.setAgent 1 { powerOnAgent with leaseLimit := 0 }

/-- No slot is FREE: every one is a fence on granule 500. -/
def full : State := { base with slots := Vector.replicate 128 ⟨0, .fence ⟨500, 500⟩⟩ }

/-- Every cell is occupied by an entry of agent 9, which has ended. -/
def crowded (s : State) : State := { s with cells := Vector.replicate 64 ⟨0, .ended (entry 9 .shared 5 5) .timedOut 5⟩ }

/-- Agent 1 holds four tickets. -/
def ticketed (s : State) : State :=
  let x : WaitCell := ⟨0, .ended (entry 1 .shared 5 5) .timedOut 5⟩
  { s with cells := (((s.cells.set 0 x).set 1 x).set 2 x).set 63 x }

/-- A state in which an ACQUIRE of agent 1 with this wait limit passes the refusals of R70 to R75. -/
theorem goesOn {s : State} (limit : Word)
    (h : s.standing 1 ≠ .barred ∧ admissible s.map 1 ⟨10, 19⟩ = true ∧ s.sweep.refusesAcquire 1 ⟨10, 19⟩ = false ∧
      s.ownedSlots 1 < (s.agent 1).leaseLimit) (hi : s.AcquireInRange (want limit) .exclusive) :
    (asked s 1 0x411).AcquireGoesOn 1 0x411 (want limit) .exclusive :=
  ⟨⟨rfl, by decide⟩, hi, h.1, h.2.1, notRefused h.2.2.1, h.2.2.2⟩

theorem notInRange {s : State} {q : AcquireFields} (h : s.malformedAcquire q = true) (m : LeaseMode) : ¬ s.AcquireInRange q m := fun x => by
  have := (s.malformedAcquire_eq_false_iff q).2 ⟨m, x⟩
  rw [h] at this; cases this

theorem test_witness_AcquireRefusals :
    ((asked base 1 0x421).Requesting 1 0x421 (some .acquire) ∧ ∀ m, ¬ (asked base 1 0x421).AcquireInRange (acquireFields 0x421 10 19 20) m) ∧
    (∀ m, ¬ base.AcquireInRange (acquireFields 0x411 20 19 20) m) ∧
    (∀ m, ¬ base.AcquireInRange (acquireFields 0x411 0 0x10000000 20) m) ∧
    (∀ m, ¬ base.AcquireInRange (acquireFields 0x411 10 19 0) m) ∧
    base.AcquireInRange (acquireFields 0x411 0 0x0FFFFFFF 1) .exclusive ∧
    ((asked (barred base 1) 1 0x411).AcquireInRange (want 0) .exclusive ∧ (asked (barred base 1) 1 0x411).standing 1 = .barred) ∧
    ((asked unmapped 1 0x411).AcquireInRange (want 0) .exclusive ∧ (asked unmapped 1 0x411).standing 1 ≠ .barred ∧
      admissible unmapped.map 1 (want 0).range = false) ∧
    (base.standing 1 ≠ .barred ∧ admissible base.map 1 (want 0).range = true ∧ (swept base (.agent 1) 5).SweepRefuses 1 (want 0).range ∧
      (swept base (.range ⟨19, 30⟩ true) 5).SweepRefuses 1 (want 0).range) ∧
    (¬ limited.SweepRefuses 1 (want 0).range ∧ (limited.agent 1).leaseLimit ≤ limited.ownedSlots 1 ∧ limited.standing 1 ≠ .barred ∧
      admissible limited.map 1 (want 0).range = true) :=
  have hb : base.standing 1 ≠ .barred ∧ admissible base.map 1 (want 0).range = true := by decide +kernel
  ⟨⟨by decide, notInRange (by decide)⟩, notInRange (by decide), notInRange (by decide), notInRange (by decide),
    by and_intros <;> decide +kernel, by and_intros <;> decide +kernel, by and_intros <;> decide +kernel,
    ⟨hb.1, hb.2, ⟨rfl, .inl rfl⟩, ⟨rfl, .inr ⟨_, rfl, by decide⟩⟩⟩,
    ⟨notRefused (by decide +kernel), by and_intros <;> decide +kernel⟩⟩

theorem test_witness_AcquireGrantedAtOnce : (asked base 1 0x411).AcquireGoesOn 1 0x411 (want 0) .exclusive ∧
    ¬ (asked base 1 0x411).ConflictObstacle ⟨.agent 1, .exclusive, (want 0).range⟩ ∧ ¬ (asked base 1 0x411).SweepObstacle (want 0).range ∧
    (asked base 1 0x411).LowestFreeIs 0 :=
  ⟨goesOn 0 (by decide +kernel) (by decide +kernel), by decide +kernel, notSwept (by decide), by decide +kernel⟩

/-- Agent 2's SHARED lease on 19..20 is in the way. -/
def taken : State := base.setSlotState 0 (.held (lease 2 .shared 19 20) 5)

theorem test_witness_AcquireTurnedAway :
    (want 0).waitLimit = 0 ∧ (want 1).waitLimit ≠ 0 ∧
    ((asked taken 1 0x411).AcquireGoesOn 1 0x411 (want 0) .exclusive ∧
      (asked taken 1 0x411).ConflictObstacle ⟨.agent 1, .exclusive, (want 0).range⟩) ∧
    ((asked (swept base (.range ⟨19, 30⟩ false) 5) 1 0x411).AcquireGoesOn 1 0x411 (want 0) .exclusive ∧
      (asked (swept base (.range ⟨19, 30⟩ false) 5) 1 0x411).SweepObstacle (want 0).range) ∧
    ((asked full 1 0x411).AcquireGoesOn 1 0x411 (want 0) .exclusive ∧
      ¬ (asked full 1 0x411).ConflictObstacle ⟨.agent 1, .exclusive, (want 0).range⟩ ∧
      ¬ (asked full 1 0x411).SweepObstacle (want 0).range ∧ (asked full 1 0x411).TableFull) ∧
    ((asked (ticketed taken) 1 0x411).AcquireGoesOn 1 0x411 (want 1) .exclusive ∧ 4 ≤ (ticketed taken).ticketCount 1 ∧
      (ticketed taken).ConflictObstacle ⟨.agent 1, .exclusive, (want 1).range⟩) ∧
    ((asked (crowded taken) 1 0x411).AcquireGoesOn 1 0x411 (want 1) .exclusive ∧ (crowded taken).ticketCount 1 < 4 ∧
      (∀ c, ((crowded taken).cell c).state ≠ .empty) ∧ (crowded taken).ConflictObstacle ⟨.agent 1, .exclusive, (want 1).range⟩) :=
  ⟨by decide, by decide, ⟨goesOn 0 (by decide +kernel) (by decide +kernel), by decide +kernel⟩,
    ⟨goesOn 0 (by decide +kernel) (by decide +kernel), rfl, _, _, rfl, by decide⟩,
    ⟨goesOn 0 (by decide +kernel) (by decide +kernel), by decide +kernel, notSwept (by decide), by decide +kernel⟩,
    ⟨goesOn 1 (by decide +kernel) (by decide +kernel), by decide +kernel, by decide +kernel⟩,
    ⟨goesOn 1 (by decide +kernel) (by decide +kernel), by and_intros <;> decide +kernel⟩⟩

theorem test_witness_AcquireDeferred : (want 65535).waitLimit = 65535 ∧ (want 65534).waitLimit ≠ 65535 ∧ (want 1).waitLimit ≠ 0 ∧
    ((asked taken 1 0x411).AcquireGoesOn 1 0x411 (want 65535) .exclusive ∧ (asked taken 1 0x411).LowestEmptyIs 0 ∧
      (asked taken 1 0x411).ticketCount 1 < 4 ∧ (asked taken 1 0x411).ConflictObstacle ⟨.agent 1, .exclusive, (want 65535).range⟩) ∧
    ((asked (swept base (.range ⟨19, 30⟩ false) 5) 1 0x411).AcquireGoesOn 1 0x411 (want 1) .exclusive ∧
      ¬ (swept base (.range ⟨19, 30⟩ false) 5).ConflictObstacle ⟨.agent 1, .exclusive, (want 1).range⟩ ∧
      (swept base (.range ⟨19, 30⟩ false) 5).SweepObstacle (want 1).range) ∧
    ((asked full 1 0x411).AcquireGoesOn 1 0x411 (want 65534) .exclusive ∧
      ¬ full.ConflictObstacle ⟨.agent 1, .exclusive, (want 65534).range⟩ ∧ ¬ full.SweepObstacle (want 65534).range ∧ full.TableFull) :=
  ⟨by decide, by decide, by decide,
    ⟨goesOn 65535 (by decide +kernel) (by decide +kernel), by and_intros <;> decide +kernel⟩,
    ⟨goesOn 1 (by decide +kernel) (by decide +kernel), by decide +kernel, rfl, _, _, rfl, by decide⟩,
    ⟨goesOn 65534 (by decide +kernel) (by decide +kernel), by decide +kernel, notSwept (by decide), by decide +kernel⟩⟩

/-- Agent 1 renews the lease of slot 0, in this state and under this sweep, standing and yield flag. -/
theorem test_witness_RenewRefusals : handleOf 0 = ⟨0, 0⟩ ∧ handleOf 0x7FFF = ⟨127, 255⟩ ∧
    (asked held 1 2).Requesting 1 2 (some .renew) ∧ held.HandleStale ⟨0, 1⟩ ∧ held.HandleStale ⟨127, 0⟩ ∧
    (base.setSlotState 0 (.reserved (lease 1 .shared 5 6) 3)).HandleStale ⟨0, 0⟩ ∧ held.HandleOfOther 2 ⟨0, 0⟩ ∧
    full.HandleOfOther 1 ⟨127, 0⟩ ∧
    (base.setSlotState 0 (.lapsed (lease 1 .shared 5 6) 3)).slot 0 = ⟨0, .lapsed (lease 1 .shared 5 6) 3⟩ ∧
    (base.setSlotState 0 (.revoked (lease 1 .shared 5 6) 3)).slot 0 = ⟨0, .revoked (lease 1 .shared 5 6) 3⟩ ∧
    held.slot 0 = ⟨0, .held (lease 1 .exclusive 10 19) 20000⟩ ∧ (lease 1 .exclusive 10 19).owner = 1 ∧
    (barred held 1).standing 1 = .barred ∧ held.standing 1 ≠ .barred ∧ (swept held (.agent 1) 0).SweepMatches 1 ⟨10, 19⟩ ∧
    (swept held (.range ⟨19, 19⟩ false) 0).SweepMatches 1 ⟨10, 19⟩ ∧ ¬ held.SweepMatches 1 ⟨10, 19⟩ ∧
    ({ lease 1 .exclusive 10 19 with budget := 0 } : AgentLease).budget = 0 ∧ (lease 1 .exclusive 10 19).budget ≠ 0 ∧
    State.yieldFlag { contended with yieldFlag := true } = true ∧
    ¬ State.NoWaiterAgainst { contended with yieldFlag := true } (lease 1 .exclusive 10 19).claim :=
  have hs : (∀ x, (base.setSlotState 0 x).slot 0 = ⟨0, x⟩) ∧ held.slot 0 = ⟨0, .held (lease 1 .exclusive 10 19) 20000⟩ :=
    ⟨fun x => (base.slot_setSlotState 0 0 x).trans (if_pos rfl), by decide +kernel⟩
  have hb : (barred held 1).standing 1 = .barred ∧ held.standing 1 ≠ .barred := by decide +kernel
  ⟨by decide, by decide, by decide +kernel, .inl (by decide +kernel), .inr (.inl (by decide +kernel)),
    .inr (.inr ⟨_, _, rfl⟩), .inr ⟨lease 1 .exclusive 10 19, 20000, by decide, .inl hs.2⟩,
    .inl ⟨⟨500, 500⟩, by decide +kernel⟩, hs.1 _, hs.1 _, hs.2, rfl, hb.1, hb.2, .inr ⟨rfl, rfl⟩, .inl ⟨rfl, _, _, rfl, by decide⟩, notMatched (by decide +kernel), rfl, by decide, rfl,
    by decide +kernel⟩

theorem test_witness_RenewRestartsTheTerm : (asked held 1 2).Requesting 1 2 (some .renew) ∧
    (asked held 1 2).slot 0 = ⟨0, .held (lease 1 .exclusive 10 19) 20000⟩ ∧ (asked held 1 2).standing 1 ≠ .barred ∧
    ¬ (asked held 1 2).SweepMatches 1 ⟨10, 19⟩ ∧ (lease 1 .exclusive 10 19).budget ≠ 0 ∧ (asked held 1 2).yieldFlag = false ∧
    State.NoWaiterAgainst { asked held 1 2 with yieldFlag := true } (lease 1 .exclusive 10 19).claim ∧
    ((0 : Word).extractLsb' 0 16 = 0 ∧ (0xFFFF : Word).extractLsb' 0 16 ≠ 0) :=
  have h : (asked held 1 2).slot 0 = ⟨0, .held (lease 1 .exclusive 10 19) 20000⟩ ∧ (asked held 1 2).standing 1 ≠ .barred := by
    decide +kernel
  ⟨by decide +kernel, h.1, h.2, notMatched (by decide +kernel), by decide, rfl, by decide +kernel, by decide⟩

theorem test_witness_ReleaseFreesTheSlot : (asked held 1 3).Requesting 1 3 (some .release) ∧ (asked held 1 3).HandleStale ⟨0, 1⟩ ∧
    (asked held 2 3).HandleOfOther 2 ⟨0, 0⟩ ∧ (asked held 1 3).slot 0 = ⟨0, .held (lease 1 .exclusive 10 19) 20000⟩ ∧
    (asked (base.setSlotState 127 (.lapsed (lease 1 .shared 5 6) 3)) 1 3).slot 127 = ⟨0, .lapsed (lease 1 .shared 5 6) 3⟩ ∧
    (asked (base.setSlotState 127 (.revoked (lease 1 .shared 5 6) 3)) 1 3).slot 127 = ⟨0, .revoked (lease 1 .shared 5 6) 3⟩ :=
  ⟨by decide +kernel, .inl (by decide +kernel),
    .inr ⟨lease 1 .exclusive 10 19, 20000, by decide, .inl (by decide +kernel)⟩, by and_intros <;> decide +kernel⟩

/-- Cell 63 holds agent 2's grant of slot 0, with this much left of its window. -/
def grantedFor (left : Nat) : State := listed (base.setSlotState 0 (.reserved (entry 2 .shared 12 13).lease 63)) 63
  (.granted (entry 2 .shared 12 13) left 0)

/-- The grant with 5 units left. -/
def granted : State := grantedFor 5000

/-- Cell 63 holds agent 2's entry, which has ended so. -/
def ended (o : Ending) : State := listed base 63 (.ended (entry 2 .shared 12 13) o 5000)

/-- What POLL and WITHDRAW find. -/
theorem ticketStates : ticketOf 0x3FFF = ⟨63, 255⟩ ∧ ticketOf 63 = ⟨63, 0⟩ ∧ base.TicketStale ⟨63, 0⟩ ∧ granted.TicketStale ⟨63, 1⟩ ∧
    granted.TicketOfOther 3 ⟨63, 0⟩ ∧ contended.cell 0 = ⟨0, .waiting (entry 2 .shared 12 13) .conflict (some 81000)⟩ ∧
    granted.cell 63 = ⟨0, .granted (entry 2 .shared 12 13) 5000 0⟩ ∧
    (granted.slot 0).state = .reserved (entry 2 .shared 12 13).lease 63 ∧
    (∀ o, (ended o).cell 63 = ⟨0, .ended (entry 2 .shared 12 13) o 5000⟩) :=
  have h : ∀ o, (ended o).cell 63 = ⟨0, .ended (entry 2 .shared 12 13) o 5000⟩ := fun o => by cases o <;> decide +kernel
  by and_intros <;> first | exact h | decide +kernel

theorem test_witness_PollReportsAndCollects : (asked granted 2 4).Requesting 2 4 (some .poll) ∧ (entry 2 .shared 12 13).agent = 2 ∧
    (asked granted 2 4).TicketStale ⟨63, 1⟩ ∧ (asked granted 3 4).TicketOfOther 3 ⟨63, 0⟩ ∧
    (asked contended 2 4).cell 0 = ⟨0, .waiting (entry 2 .shared 12 13) .conflict (some 81000)⟩ ∧
    (asked granted 2 4).cell 63 = ⟨0, .granted (entry 2 .shared 12 13) 5000 0⟩ ∧
    ((asked granted 2 4).slot 0).state = .reserved (entry 2 .shared 12 13).lease 63 ∧
    (∀ o, (asked (ended o) 2 4).cell 63 = ⟨0, .ended (entry 2 .shared 12 13) o 5000⟩) :=
  have h := ticketStates
  ⟨⟨rfl, by decide⟩, rfl, h.2.2.2.1, h.2.2.2.2.1, h.2.2.2.2.2.1, h.2.2.2.2.2.2.1, h.2.2.2.2.2.2.2.1, h.2.2.2.2.2.2.2.2⟩

theorem test_witness_WithdrawEmptiesTheCell : (asked granted 2 5).Requesting 2 5 (some .withdraw) ∧ (entry 2 .shared 12 13).agent = 2 ∧
    (asked granted 2 5).TicketStale ⟨63, 1⟩ ∧ (asked granted 3 5).TicketOfOther 3 ⟨63, 0⟩ ∧
    (asked contended 2 5).cell 0 = ⟨0, .waiting (entry 2 .shared 12 13) .conflict (some 81000)⟩ ∧
    (asked granted 2 5).cell 63 = ⟨0, .granted (entry 2 .shared 12 13) 5000 0⟩ ∧
    ((asked granted 2 5).slot 0).state = .reserved (entry 2 .shared 12 13).lease 63 ∧
    (∀ o, (asked (ended o) 2 5).cell 63 = ⟨0, .ended (entry 2 .shared 12 13) o 5000⟩) :=
  have h := ticketStates
  ⟨⟨rfl, by decide⟩, rfl, h.2.2.2.1, h.2.2.2.2.1, h.2.2.2.2.2.1, h.2.2.2.2.2.2.1, h.2.2.2.2.2.2.2.1, h.2.2.2.2.2.2.2.2⟩

/-! ### The hypotheses of the statements are met: timers and conduct -/

/-- Slot 0 holds agent 1's lease on 10..19, its term run out. -/
def runOut : State := base.setSlotState 0 (.held (lease 1 .exclusive 10 19) 0)

theorem test_witness_TermExpiryRenews : runOut.frozen = false ∧ (runOut.slot 0).state = .held (lease 1 .exclusive 10 19) 0 ∧
    runOut.RenewsButForSweep (lease 1 .exclusive 10 19) ∧ ¬ runOut.SweepMatches 1 ⟨10, 19⟩ :=
  ⟨rfl, by decide +kernel, by decide +kernel, notMatched (by decide +kernel)⟩

/-- R54: once a RENEW has restarted the term, the old expiry is no expiry. -/
theorem test_noExpiryWhileTimeIsLeft : answers (exec (.termExpiry 0) held) (fun t => t.slot 0 == held.slot 0 && t.sources == held.sources) =
    true := by decide +kernel

/-- Agent 1, one charge above BARRED by OVERSTAY, waits in cell 1 and holds slot 0 without auto. -/
def atTheEdge (value : Nat) : State := (listed (base.setSlotState 0 (.held ⟨1, .shared, ⟨10, 19⟩, 20, false, 0, 0⟩ 0)) 1
  (.waiting (entry 1 .shared 30 31) .conflict none)).setAgent 1 { powerOnAgent with overstay := ⟨value, 0, ⟨40, 10, .barring⟩⟩ }

/-- What the lapse of slot 0 makes of it, before any pass. -/
def edgeLapsed (value : Nat) : State := (State.charge { atTheEdge value with
    slots := (atTheEdge value).slots.set 0 ⟨0, .lapsed ⟨1, .shared, ⟨10, 19⟩, 20, false, 0, 0⟩ 16000⟩ } 1 .overstay).raise .leaseLapsed 0

theorem test_witness_TermExpiryLapses : (swept runOut (.agent 1) 0).frozen = false ∧
    ((swept runOut (.agent 1) 0).slot 0).state = .held (lease 1 .exclusive 10 19) 0 ∧
    (swept runOut (.agent 1) 0).RenewsButForSweep (lease 1 .exclusive 10 19) ∧ (swept runOut (.agent 1) 0).SweepMatches 1 ⟨10, 19⟩ ∧
    ((atTheEdge 50).slot 0).state = .held ⟨1, .shared, ⟨10, 19⟩, 20, false, 0, 0⟩ 0 ∧
    ¬ (atTheEdge 50).RenewsButForSweep ⟨1, .shared, ⟨10, 19⟩, 20, false, 0, 0⟩ ∧
    ¬ (atTheEdge 51).BarsWaiter (edgeLapsed 51) 1 ∧ (atTheEdge 50).BarsWaiter (edgeLapsed 50) 1 :=
  ⟨rfl, by decide +kernel, by decide +kernel, .inr ⟨rfl, rfl⟩, by and_intros <;> decide +kernel⟩

theorem test_witness_OtherExpiries : base.frozen = false ∧ (∀ x, ((base.setSlotState 127 x).slot 127).state = x) ∧
    (∀ x, ((base.setCellState 63 x).cell 63).state = x) ∧
    ((grantedFor 0).cell 63).state = .granted (entry 2 .shared 12 13) 0 0 ∧
    ((grantedFor 0).slot 0).state = .reserved (entry 2 .shared 12 13).lease 63 ∧
    (∀ l, (held.slot 0).state ≠ .held l 0) ∧ (∀ l, (held.slot 0).state ≠ .lapsed l 0 ∧ (held.slot 0).state ≠ .revoked l 0) ∧
    (∀ e r, (contended.cell 0).state ≠ .waiting e r (some 0)) ∧ (∀ e k, (granted.cell 63).state ≠ .granted e 0 k) ∧
    ∀ e o, (granted.cell 63).state ≠ .ended e o 0 := by
  have hh : (held.slot 0).state = .held (lease 1 .exclusive 10 19) 20000 := by decide +kernel
  have hc : (contended.cell 0).state = .waiting (entry 2 .shared 12 13) .conflict (some 81000) := by decide +kernel
  have hg : (granted.cell 63).state = .granted (entry 2 .shared 12 13) 5000 0 := by decide +kernel
  refine ⟨rfl, fun x => ?_, fun x => ?_, by decide +kernel, by decide +kernel, fun l h => ?_, fun l => ⟨fun h => ?_, fun h => ?_⟩,
    fun e r h => ?_, fun e k h => ?_, fun e o h => ?_⟩
  · rw [State.slot_setSlotState, if_pos rfl]
  · rw [State.cell_setCellState, if_pos rfl]
  · cases hh.symm.trans h
  · cases hh.symm.trans h
  · cases hh.symm.trans h
  · cases hc.symm.trans h
  · cases hg.symm.trans h
  · cases hg.symm.trans h

theorem test_witness_FreezeStopsExpiries : base.resetHeld = false ∧ State.frozen { base with frozen := true } = true := ⟨rfl, rfl⟩

theorem test_witness_ChargesAndCredits : (∃ x : Score, x.rawCount < 65535) ∧ (∃ x : Score, x.rawCount = 65535) ∧
    (base.charge 31 .trespass).standing 31 = base.standing 31 ∧ (base.credit 0).standing 0 = base.standing 0 :=
  ⟨⟨⟨1, 65534, ⟨40, 10, .barring⟩⟩, by decide⟩, ⟨⟨1, 65535, ⟨40, 10, .barring⟩⟩, rfl⟩, by decide +kernel, by decide +kernel⟩

theorem test_witness_StandingAndItsChanges : powerOnAgent.standing = base.standing 2 ∧
    ({ powerOnAgent with trespass := ⟨40, 0, ⟨40, 2, .advisory⟩⟩ } : AgentRecord).standing ≠ contended.standing 2 ∧
    ({ powerOnAgent with trespass := ⟨40, 0, ⟨40, 2, .advisory⟩⟩ } : AgentRecord).standing = .advised ∧
    ({ powerOnAgent with overstay := ⟨40, 0, ⟨40, 10, .barring⟩⟩ } : AgentRecord).standing = .barred ∧ contended.standing 2 ≠ .barred ∧
    (contended.cell 0).state = .waiting (entry 2 .shared 12 13) .conflict (some 81000) ∧ (entry 2 .shared 12 13).agent = 2 ∧
    (∀ e ∈ (contended.cell 1).state.waiting?, e.agent ≠ 2) := by decide +kernel

/-- Eight charges wait; one lookup stands presented, and one more is held back. -/
def charged : State := { base with charges := List.replicate 8 3, presented := some ⟨4, 0, .read⟩, heldLookups := [⟨5, 0, .read⟩] }

theorem test_witness_TrespassChargeTaken : base.charges = [] ∧ charged.resetHeld = false ∧
    (charged.charges = 3 :: List.replicate 7 3 ∧ (List.replicate 7 (3 : AgentNo)).length < 8 ∧ charged.presented = some ⟨4, 0, .read⟩ ∧
      ¬ charged.BarsWaiter (State.charge { charged with charges := List.replicate 7 3 } 3 .trespass) 3) ∧
    (∃ s : State, s.resetHeld = false ∧ s.charges = [2] ∧ s.presented = none ∧
      s.BarsWaiter (State.charge { s with charges := [] } 2 .trespass) 2) ∧
    8 ≤ (List.replicate 8 (3 : AgentNo)).length ∧
    (base.decideAccess 4 0 .read = .allow ∧ unmapped.decideAccess 4 0 .read ≠ .allow ∧ unmapped.decideAccess 4 0 .read ≠ .deny .offline) :=
  ⟨rfl, rfl, ⟨rfl, by decide, rfl, by decide +kernel⟩,
    ⟨{ trespassed contended 2 42 ⟨40, 2, .barring⟩ with charges := [2] }, rfl, rfl, rfl, by decide +kernel⟩, by decide, by decide +kernel⟩

/-- R126, R188: one charge taken lets the lookup presented be taken; the next is not presented in that step, and CK_DONE falls before it
is. -/
theorem test_oneLookupARise : answers (execTrespassCharge charged) (fun t => t.ckAnswer == some .allow && t.presented == none &&
      t.heldLookups == [⟨5, 0, .read⟩] && t.charges == List.replicate 7 3) = true ∧
    answers (step { base with ckAnswer := some .allow, heldLookups := queued }) (fun t => t.ckAnswer == none && t.heldLookups == queued) =
      true ∧
    answers (step { base with heldLookups := queued }) (fun t => t.ckAnswer == some .allow && t.heldLookups == [⟨5, 0, .read⟩]) = true := by
  decide +kernel

/-- A LOOKUP while one stands presented only waits for its own rise of CK_VALID. -/
theorem test_lookupWhilePresented : execLookup 7 0 .write charged =
    .next { charged with heldLookups := [⟨5, 0, .read⟩, ⟨7, 0, .write⟩] } := rfl

/-! ### The hypotheses of the statements are met: the check port, claims and the grant pass -/

theorem test_witness_LookupsAreAnswered : base.resetHeld = false ∧ base.charges.length < 8 ∧ base.presented = none ∧ base.heldLookups = [] ∧
    State.heldLookups { base with heldLookups := queued } = ⟨4, 0, .read⟩ :: [⟨5, 0, .read⟩] ∧ charged.presented ≠ none ∧
    State.presented { charged with presented := none } = none ∧
    base.decideAccess 1 5 .read = .allow ∧ State.decideAccess { base with attach := 0 } 1 5 .read = .deny .offline ∧
    unmapped.decideAccess 1 5 .read ≠ .allow ∧ unmapped.decideAccess 1 5 .read ≠ .deny .offline ∧ 8 ≤ charged.charges.length ∧
    charged.resetHeld = false := by decide +kernel

/-- The granule of the witnesses lies in a RESERVED lease of agent 2, besides this one in slot 0. -/
def onGranule (p : Policy) (x : SlotState) : State :=
  { base.setSlotState 0 x with map := (Vector.replicate 8 powerOnInvalidEntry).set 3 ⟨true, ⟨10, 19⟩, 0, 31, p⟩ }

theorem mapSound_onGranule (p : Policy) (x : SlotState) : (onGranule p x).MapSound := by
  have h : ∀ i : Fin 8, i ≠ 3 → (onGranule p x).map[i].valid = false := by
    intro i hi
    have : ∀ q : Policy, ∀ i : Fin 8, i ≠ 3 →
        ((Vector.replicate 8 powerOnInvalidEntry).set 3 (⟨true, ⟨10, 19⟩, 0, 31, q⟩ : Partition))[i].valid = false := by
      intro q; cases q <;> decide
    exact this p i hi
  intro i j hij hi hj
  by_cases h3 : i = 3
  · rw [h j (fun e => hij (h3.trans e.symm))] at hj; cases hj
  · rw [h i h3] at hi; cases hi

/-- One state for each of the eleven rows of R139, with what the row asks for. -/
theorem test_witness_LookupDecisionTable : (∀ p x, (onGranule p x).MapSound) ∧ State.port { base with attach := 0 } 1 ≠ .attached ∧
    base.port 1 = .attached ∧ (∀ i : Fin 8, unmapped.map[i].admits 1 10 = false) ∧
    (onGranule .closed .free).map[(3 : Fin 8)].admits 1 10 = true ∧ (onGranule .closed .free).map[(3 : Fin 8)].admits 1 19 = true ∧
    (onGranule .closed (.fence ⟨10, 10⟩)).FenceOn 10 ∧ (onGranule .closed (.held (lease 1 .exclusive 10 10) 5)).HeldOn 1 .exclusive 10 ∧
    (onGranule .closed (.held (lease 1 .shared 10 10) 5)).HeldOn 1 .shared 10 ∧
    (onGranule .closed (.lapsed (lease 2 .exclusive 10 10) 5)).OtherOn 1 .exclusive 10 ∧
    (onGranule .closed (.reserved (lease 2 .shared 10 10) 5)).OtherOn 1 .shared 10 ∧
    (onGranule .closed (.reserved (lease 1 .shared 10 10) 5)).OwnIdleOn 1 10 ∧
    (onGranule .closed (.lapsed (lease 1 .shared 10 10) 5)).OwnIdleOn 1 10 ∧
    (¬ (onGranule .closed .free).FenceOn 10 ∧ ¬ (onGranule .closed .free).HeldOn 1 .exclusive 10 ∧
      ¬ (onGranule .closed .free).HeldOn 1 .shared 10 ∧ ¬ (onGranule .closed .free).OtherOn 1 .exclusive 10 ∧
      ¬ (onGranule .closed .free).OtherOn 1 .shared 10 ∧ ¬ (onGranule .closed .free).OwnIdleOn 1 10) ∧
    ∀ p, (onGranule p .free).map[(3 : Fin 8)].policy = p := by
  refine ⟨mapSound_onGranule, by decide +kernel, by decide +kernel, by decide +kernel, ?_⟩
  simp only [← State.fenceOn_iff, ← State.heldOn_iff, ← State.otherOn_iff, ← State.ownIdleOn_iff]
  and_intros <;> first | decide +kernel | (intro p; cases p <;> decide +kernel)

theorem test_witness_WriteAllowedOnlyByRight : (onGranule .closed (.held (lease 1 .exclusive 10 10) 5)).decideAccess 1 10 .write = .allow ∧
    (onGranule .openAccess .free).decideAccess 1 19 .write = .allow ∧ (onGranule .readOnly .free).decideAccess 1 10 .read = .allow := by
  decide +kernel

theorem test_witness_GranuleOfAddress : base.granule64 = false ∧ State.granule64 { base with granule64 := true } = true ∧
    (0x12345000 : BitVec 40).toNat / 4096 = (0x12345FFF : BitVec 40).toNat / 4096 := ⟨rfl, rfl, by decide⟩

theorem test_witness_ConflictRelation : (GranuleRange.mk 10 19).intersects ⟨19, 30⟩ = true ∧ (Owner.agent 1) ≠ .management ∧
    (GranuleRange.mk 10 19).intersects ⟨20, 30⟩ = false := by decide

theorem test_witness_AdmissibleRanges : (0 : Word) ≤ 0x0FFFFFFF ∧ admissible base.map 31 ⟨0, 0x0FFFFFFF⟩ = true := by decide +kernel

theorem test_witness_GrantPassLeavesNothingGrantable : contended.ListSound ∧
    (contended.grantPass.cell 1).state = .waiting (entry 3 .exclusive 15 15) .conflict none := by
  unfold State.ListSound; decide +kernel

/-! ### The hypotheses of the statements are met: sweeps -/

theorem test_witness_SweepsStartAndAbort : base.resetHeld = false ∧ (swept base (.agent 3) 0).sweep.status = .inProgress ∧
    base.sweep.status ≠ .inProgress ∧ ((0 : Word).extractLsb' 0 2 ≠ 1 ∧ (3 : Word).extractLsb' 0 2 ≠ 2) ∧
    (0x101 : Word).extractLsb' 0 2 = 1 ∧ (2 : Word).extractLsb' 0 2 = 2 ∧ ¬ ((20 : Word) ≤ 19 ∧ (19 : Word) ≤ base.largestGranule) ∧
    ¬ ((0 : Word) ≤ 0x10000000 ∧ (0x10000000 : Word) ≤ base.largestGranule) ∧
    ((0 : Word) ≤ 0x0FFFFFFF ∧ (0x0FFFFFFF : Word) ≤ base.largestGranule) ∧ base.portCount ≤ (32 : Word).toNat ∧
    (∃ a : AgentNo, (31 : Word).toNat = a.val ∧ a.val < base.portCount) ∧
    (contended.cell 0).state = .waiting (entry 2 .shared 12 13) .conflict (some 81000) ∧
    (SweepKind.range ⟨13, 13⟩ true).cancels (entry 2 .shared 12 13) = true ∧
    (∀ e ∈ (contended.cell 1).state.waiting?, (SweepKind.range ⟨13, 13⟩ true).cancels e = false) ∧
    contended.countWaiting (SweepKind.range ⟨13, 13⟩ false).cancels = 0 ∧
    contended.countWaiting (SweepKind.range ⟨13, 13⟩ true).cancels ≠ 0 :=
  by and_intros <;> first | exact ⟨31, by decide⟩ | decide +kernel

/-- Slot 127 holds agent 2's grant of cell 63. -/
def lastGranted : State := listed (base.setSlotState 127 (.reserved (entry 2 .shared 12 13).lease 63)) 63
  (.granted (entry 2 .shared 12 13) 5000 127)

theorem test_witness_VisitsRevokeMatchedLeases : base.sweep.status ≠ .inProgress ∧
    ((swept held (.agent 1) 0).sweep.nextSlot = (0 : SlotNo).val ∧ ∃ u, (swept held (.agent 1) 0).VisitActs 0 u 1 true) ∧
    ((swept held (.agent 2) 0).sweep.nextSlot = (0 : SlotNo).val ∧ ∃ u, (swept held (.agent 2) 0).VisitActs 0 u 0 false) ∧
    ((swept lastGranted (.range ⟨13, 20⟩ false) 127).sweep.nextSlot = (127 : SlotNo).val ∧
      ∃ u, (swept lastGranted (.range ⟨13, 20⟩ false) 127).VisitActs 127 u 0 true) := by
  refine ⟨by decide, ⟨rfl, _, .inl ⟨lease 1 .exclusive 10 19, 20000, .inl (by decide +kernel), .inr ⟨rfl, rfl⟩, rfl, rfl, rfl⟩⟩,
    ⟨rfl, _, .inr (.inr ⟨fun l hl => notMatched ?_, rfl, rfl, rfl⟩)⟩, ⟨rfl, _, .inr (.inl ⟨(entry 2 .shared 12 13).lease, 63,
      entry 2 .shared 12 13, 5000, by decide +kernel, by decide +kernel, .inl ⟨rfl, _, _, rfl, by decide⟩, rfl, rfl, rfl⟩)⟩⟩
  have h : ((swept held (.agent 2) 0).slot 0).state.holding? = some (lease 1 .exclusive 10 19) := by decide +kernel
  cases h.symm.trans hl
  decide +kernel

theorem test_witness_TenthsRemainingAfterVisit : ∀ n ∈ [0, 11, 12, 24, 25, 114, 115, 127], (swept base (.agent 1) n).sweep.status = .inProgress ∧
    (swept base (.agent 1) n).sweep.nextSlot < 128 := by decide

/-! ### The hypotheses of the statements are met: the host's commands -/

/-- SET_AGENT's parameters for agent 31: both parts, class HIGH, limit 16, OVERSTAY threshold 100 and penalty 50, the others as at
power-on. -/
def setBoth : State := given base 31 0x1023 0x23264 0x10A28 0x10228

theorem test_witness_SetAgentTestsAndApplies : setBoth.resetHeld = false ∧
    (∀ a : AgentNo, (given base 32 0 0 0 0).params[0].toNat = a.val → (given base 32 0 0 0 0).port a = .absent) ∧
    (∀ a : AgentNo, (given { base with agentsCode := 0 } 8 0 0 0 0).params[0].toNat = a.val →
      (given { base with agentsCode := 0 } 8 0 0 0 0).port a = .absent) ∧
    (setBoth.params[0].toNat = (31 : AgentNo).val ∧ setBoth.port 31 ≠ .absent ∧ setBoth.params[1].getLsbD 0 = true ∧
      setBoth.params[1].getLsbD 1 = true) ∧
    (portParams setBoth.params = some (.high, 16) ∧ settingsParam setBoth.params[2] = some ⟨100, 50, .barring⟩ ∧
      settingsParam setBoth.params[3] = some ⟨40, 10, .advisory⟩ ∧ settingsParam setBoth.params[4] = some ⟨40, 2, .advisory⟩) ∧
    portParams (given base 31 0x1121 0 0 0).params = none ∧ portParams (given base 31 0x0031 0 0 0).params = none ∧
    (settingsParam 0x10A65 = none ∧ settingsParam 0x10028 = none ∧ settingsParam 0x13328 = none ∧ settingsParam 0x30A28 = none) ∧
    State.lock { setBoth with lock := true } = true ∧
    (∃ c n, portParams (given held 1 0x0011 0 0 0).params = some (c, n) ∧ n < held.ownedSlots 1) ∧
    (setBoth.agent 31).leaseLimit < 16 ∧ setBoth.ownedSlots 31 ≤ 16 ∧
    (∃ v : State, v = setBoth.updateConduct 31
      ⟨.high, 16, ⟨100, 0, ⟨100, 50, .barring⟩⟩, ⟨100, 0, ⟨40, 10, .advisory⟩⟩, ⟨100, 0, ⟨40, 2, .advisory⟩⟩⟩ ∧ v.standing 31 = .barred) :=
  by and_intros <;> first | exact ⟨.low, 0, by decide +kernel⟩ | exact ⟨_, rfl, by decide +kernel⟩ | decide +kernel

/-- A profile block: entry 0 valid, granules 0..first16, agents 0..31, OPEN; the settings words; unit 1, yield on; hold 1, window 255;
and the checksum. -/
def block (revision valid hold check : Half) : Vector Half 48 :=
  ((((((((Vector.replicate 48 0).set 0 revision).set 1 (0x1F00 + valid)).set 4 (99 : Half)).set 41 0x4528).set 42 0x2528).set 43
    0x2128).set 44 5).set 45 hold |>.set 46 255 |>.set 47 check

/-- The block above, in order. -/
def goodBlock : Vector Half 48 := block 1 1 1 (0 - profileSum (block 1 1 1 0))

/-- The same block with no valid entry. -/
def emptyBlock : Vector Half 48 := block 1 0 1 (0 - profileSum (block 1 0 1 0))

/-- The same block with a hold period of 0. -/
def badBlock : Vector Half 48 := block 1 1 0 (0 - profileSum (block 1 1 0 0))

/-- The staging area holds this block. -/
def staged (s : State) (b : Vector Half 48) : State := { s with staging := b }

theorem test_witness_LoadProfileTests : base.resetHeld = false ∧ base.lock = false ∧ State.lock { base with lock := true } = true ∧
    (swept base (.agent 1) 5).sweep.status = .inProgress ∧ base.sweep.status ≠ .inProgress ∧ base.staging[0] ≠ 1 ∧
    (staged base (block 1 1 1 0)).staging[0] = 1 ∧ profileSum (block 1 1 1 0) ≠ 0 ∧ profileSum badBlock = 0 ∧
    profileFieldsInRange base.largestGranule badBlock = false ∧ badBlock[0] = 1 ∧ profileSum emptyBlock = 0 ∧ emptyBlock[0] = 1 ∧
    profileFieldsInRange base.largestGranule emptyBlock = true ∧ (∀ i : Fin 8, (readProfile emptyBlock).map[i].valid = false) ∧
    profileSum goodBlock = 0 ∧ goodBlock[0] = 1 ∧ profileFieldsInRange base.largestGranule goodBlock = true ∧
    (∃ i : Fin 8, (readProfile goodBlock).map[i].valid = true) ∧
    (∃ k l, ((base.setSlotState 3 (.held (lease 1 .shared 100 100) 5)).slot k).state.holding? = some l ∧
      admissible (readProfile goodBlock).map l.owner l.range = false) ∧
    ∃ c e, ((listed base 3 (.waiting (entry 1 .shared 100 100) .conflict none)).cell c).state.waiting? = some e ∧
      admissible (readProfile goodBlock).map e.agent e.range = false := by
  and_intros
  all_goals
    first
    | exact ⟨0, by decide +kernel⟩
    | exact ⟨3, lease 1 .shared 100 100, by decide +kernel⟩
    | exact ⟨3, entry 1 .shared 100 100, by decide +kernel⟩
    | decide +kernel

/-- The codes the placements of 13.6 distinguish, each in a word of its own. -/
theorem test_witness_LoadProfileTests_codes : ((0x1 : Half).extractLsb' 1 2).toNat = 0 ∧ ((0x3 : Half).extractLsb' 1 2).toNat = 1 ∧
    ((0x5 : Half).extractLsb' 1 2).toNat = 2 ∧ ((0x2528 : Half).extractLsb' 13 2).toNat = 1 ∧ ((0x4528 : Half).extractLsb' 13 2).toNat = 2 ∧
    settingsInRange 0x4528 = true ∧ settingsInRange 0xC528 = false ∧ partitionInRange base.largestGranule goodBlock 0 = true ∧
    partitionInRange base.largestGranule (goodBlock.set 1 0x3F01) 0 = false := by decide +kernel

theorem test_witness_LoadProfileApplies : ∃ s : State, s = staged contended goodBlock ∧ s.resetHeld = false ∧ s.lock = false ∧
    s.sweep.status ≠ .inProgress ∧ s.staging[0] = 1 ∧ profileSum s.staging = 0 ∧
    profileFieldsInRange s.largestGranule s.staging = true ∧ (∃ i : Fin 8, (readProfile s.staging).map[i].valid = true) ∧
    (∀ k l, (s.slot k).state.holding? = some l → admissible (readProfile s.staging).map l.owner l.range = true) ∧
    ∀ c e, (s.cell c).state.waiting? = some e → admissible (readProfile s.staging).map e.agent e.range = true := by
  have hb : goodBlock[0] = 1 ∧ profileSum goodBlock = 0 ∧ profileFieldsInRange contended.largestGranule goodBlock = true := by
    decide +kernel
  refine ⟨_, rfl, rfl, rfl, (by decide +kernel), hb.1, hb.2.1, hb.2.2, ⟨0, by decide +kernel⟩, ?_, ?_⟩
  · have h : ∀ k, ∀ l ∈ ((staged contended goodBlock).slot k).state.holding?,
        admissible (readProfile goodBlock).map l.owner l.range = true := by decide +kernel
    exact fun k l hl => h k l hl
  · have h : ∀ c, ∀ e ∈ ((staged contended goodBlock).cell c).state.waiting?,
        admissible (readProfile goodBlock).map e.agent e.range = true := by decide +kernel
    exact fun c e he => h c e he

theorem test_loadProfile_done : answers (execLoadProfile (staged contended goodBlock)) (fun t => t.result == .done && t.params[4] == 0 &&
    t.params[5] == 1 && t.map[0] == ⟨true, ⟨0, 99⟩, 0, 31, .openAccess⟩ && t.unitCode == 1 && t.yieldFlag && t.holdPeriod == 1 &&
    t.collectWindow == 255 && t.standing 5 == .good) = true := by decide +kernel

theorem test_witness_ClearingCommands : contended.resetHeld = false ∧ (contended.slot 1).state = .free ∧ (contended.slot 0).state ≠ .free ∧
    (contended.cell 2).state = .empty ∧ (contended.cell 0).state ≠ .empty ∧ (swept contended (.agent 1) 3).sweep.status = .inProgress ∧
    contended.sweep.status ≠ .inProgress ∧ (given base 31 0 0 0 0).params[0].toNat = (31 : AgentNo).val ∧ base.port 31 ≠ .absent ∧
    (∀ a : AgentNo, (given base 32 0 0 0 0).params[0].toNat = a.val → (given base 32 0 0 0 0).port a = .absent) := by
  and_intros <;> decide +kernel

theorem test_witness_LockProtectsThePolicy : base.resetHeld = false ∧ base.lock = false ∧ ∃ s t : State, s.lock = true ∧
    exec .loadProfile s = .next t ∧ Instr.loadProfile ≠ .resetHeld ∧ (∀ g n l, Instr.loadProfile ≠ .powerOn g n l) ∧
    Instr.loadProfile.wellFormed = true ∧ Instr.loadProfile ≠ .clearAll :=
  ⟨rfl, rfl, { staged base goodBlock with lock := true }, _, rfl, rfl, by decide, fun _ _ _ h => (by cases h), rfl, by decide⟩

theorem test_witness_SnapshotBufferHoldsOneImage : base.resetHeld = false ∧ base.snapshot = none ∧
    (∃ k : SlotNo, (given base 127 0 0 0 0).params[0].toNat = k.val) ∧ (∃ d : CellNo, (given base 63 0 0 0 0).params[0].toNat = d.val) ∧
    (∃ a : AgentNo, (given base 31 0 0 0 0).params[0].toNat = a.val) ∧ 128 ≤ (given base 128 0 0 0 0).params[0].toNat ∧
    64 ≤ (given base 64 0 0 0 0).params[0].toNat ∧ 32 ≤ (given base 32 0 0 0 0).params[0].toNat ∧
    ∃ (s t : State) (im : Vector Word 12), s.snapshot = some im ∧ exec .readLease s = .next t ∧ Instr.readLease.wellFormed = true ∧
      Instr.readLease ≠ .closingRead ∧ Instr.readLease ≠ .dropSnapshot ∧ Instr.readLease ≠ .clearAll ∧ Instr.readLease ≠ .resetHeld ∧
      ∀ g n l, Instr.readLease ≠ .powerOn g n l :=
  ⟨rfl, rfl, ⟨127, by decide⟩, ⟨63, by decide⟩, ⟨31, by decide⟩, by decide, by decide, by decide,
    { base with snapshot := some (Vector.replicate 12 7) }, _, _, rfl, rfl, rfl, by decide, by decide, by decide, by decide,
    fun _ _ _ h => (by cases h)⟩

/-- The image of a HELD lease, word for word (13.5). -/
theorem test_leaseImage : State.leaseImage (base.setSlot 5 ⟨3, .held ⟨2, .exclusive, ⟨12, 13⟩, 30, true, 4, 1⟩ 29001⟩) 5 =
    #v[0x01000005, 0x7FF, 0x00021203, 12, 13, 0x001E001E, 0x00010401, 0, 0, 0, 0, 0x01000005] := by decide +kernel

/-- The image of a timer that has run out, its expiry not taken, shows 1 (R19). -/
theorem test_imageNeverZero : (runOut.leaseImage 0)[5] = 0x10014 ∧ ((grantedFor 0).waitImage 63)[6] = 0x10000 := by decide +kernel

theorem test_witness_FencesAreSetAndCleared : base.resetHeld = false ∧ ¬ ((20 : Word) ≤ 19 ∧ (19 : Word) ≤ base.largestGranule) ∧
    ((0 : Word) ≤ 0x0FFFFFFF ∧ (0x0FFFFFFF : Word) ≤ base.largestGranule) ∧
    (∃ k l, (held.slot k).state.holding? = some l ∧ l.range.intersects ⟨19, 30⟩ = true) ∧
    (∀ k l, (full.slot k).state.holding? = some l → l.range.intersects ⟨500, 500⟩ = false) ∧ full.TableFull ∧ base.LowestFreeIs 0 ∧
    full.slot (handleOf 127).slot = ⟨(handleOf 127).generation, .fence ⟨500, 500⟩⟩ ∧
    (∀ r, held.slot (handleOf 0).slot ≠ ⟨(handleOf 0).generation, .fence r⟩) := by
  refine ⟨rfl, by decide, by decide, ⟨0, lease 1 .exclusive 10 19, by decide +kernel⟩, fun k l hl => ?_, by decide +kernel, by decide +kernel,
    by decide +kernel, fun r h => ?_⟩
  · have h : ∀ k, (full.slot k).state.holding? = none := by decide +kernel
    rw [h k] at hl; cases hl
  · have h0 : held.slot (handleOf 0).slot = ⟨0, .held (lease 1 .exclusive 10 19) 20000⟩ := by decide +kernel
    cases h0.symm.trans h

theorem test_witness_RevokeAndCancelTicket : base.resetHeld = false ∧ (held.slot (handleOf 128).slot).generation ≠ (handleOf 128).generation ∧
    (held.slot (handleOf 1).slot).state = .free ∧
    (∃ l r, ((base.setSlotState 0 (.revoked (lease 1 .shared 5 6) 3)).slot 0).state = .revoked l r) ∧
    full.slot (handleOf 127).slot = ⟨(handleOf 127).generation, .fence ⟨500, 500⟩⟩ ∧
    held.slot (handleOf 0).slot = ⟨(handleOf 0).generation, .held (lease 1 .exclusive 10 19) 20000⟩ ∧
    (base.setSlotState 127 (.lapsed (lease 1 .shared 5 6) 3)).slot (handleOf 127).slot =
      ⟨(handleOf 127).generation, .lapsed (lease 1 .shared 5 6) 3⟩ ∧
    (lastGranted.slot (handleOf 127).slot = ⟨(handleOf 127).generation, .reserved (entry 2 .shared 12 13).lease 63⟩ ∧
      (lastGranted.cell 63).state = .granted (entry 2 .shared 12 13) 5000 127) ∧
    base.TicketStale (ticketOf 63) ∧ lastGranted.cell (ticketOf 63).cell = ⟨(ticketOf 63).generation, .granted (entry 2 .shared 12 13) 5000 127⟩ ∧
    (ended .cancelled).cell (ticketOf 63).cell = ⟨(ticketOf 63).generation, .ended (entry 2 .shared 12 13) .cancelled 5000⟩ ∧
    contended.cell (ticketOf 0).cell = ⟨(ticketOf 0).generation, .waiting (entry 2 .shared 12 13) .conflict (some 81000)⟩ :=
  ⟨rfl, by decide +kernel, by decide +kernel, ⟨_, _, rfl⟩, by and_intros <;> decide +kernel⟩

/-- Sources 3 and 6 pending, 6 of them enabled, and elevated. -/
def signalled : State := { base with
  sources := ((Vector.replicate 8 powerOnSource).set 3 ⟨true, 9, true⟩).set 6 ⟨true, 2, true⟩, globalEnable := true, elevate := some .sweepDone }

theorem test_witness_InterruptControls : signalled.resetHeld = false ∧ Source.sweepDone.number.val = (6 : BitVec 4).toNat ∧
    8 ≤ (8 : BitVec 4).toNat ∧ 8 ≤ (15 : BitVec 4).toNat ∧ signalled.top = some .sweepDone ∧ signalled.intLine = true ∧ base.top = none ∧
    State.top { signalled with elevate := none } = some .agentAdvised := by decide +kernel

theorem test_witness_WindowWordsReadAndWritten : base.resetHeld = false ∧ 19 ≤ (255 : BitVec 8).toNat ∧ 19 ≤ (19 : BitVec 8).toNat ∧
    (2 : BitVec 6).toNat = 2 + (0 : Fin 6).val ∧ (7 : BitVec 6).toNat = 2 + (5 : Fin 6).val ∧ (32 : BitVec 6).toNat = 32 + (0 : Fin 24).val ∧
    (55 : BitVec 6).toNat = 32 + (23 : Fin 24).val ∧ 8 ≤ (8 : BitVec 6).toNat ∧ (31 : BitVec 6).toNat ≤ 31 ∧ 61 ≤ (63 : BitVec 6).toNat ∧
    Instr.cancelTicket.commandCode = some (18 : BitVec 8).toNat ∧ Source.sweepDone.number.val = ((0x60 : Word).extractLsb' 4 4).toNat ∧
    8 ≤ ((0x80 : Word).extractLsb' 4 4).toNat ∧ signalled.resetHeld = false ∧ signalled.FieldsInRange ∧ base.elevate = none ∧ base.top = none ∧ signalled.elevate = some .sweepDone ∧
    signalled.top = some .sweepDone := by
  unfold State.FieldsInRange
  and_intros <;> decide +kernel

/-- The words of the interrupts: pending 3 and 6, both enabled, global enable with ELEVATE 6, TOP 6, details 9 and 2 (13.4). -/
theorem test_interruptWords : signalled.windowRead 56 = 0x48 ∧ signalled.windowRead 57 = 0x48 ∧ signalled.windowRead 58 = 0x61 ∧
    signalled.windowRead 59 = 6 ∧ signalled.windowRead 61 = 0x09000000 ∧ signalled.windowRead 62 = 0x20000 := by decide +kernel

/-- A write of the command word with code 18 is CANCEL_TICKET, and one of word 58 sets both its fields (13.4). -/
theorem test_windowWrites : exec (.registerWrite 1 0x112) contended = exec .cancelTicket contended ∧
    exec (.registerWrite 58 0x61) base = .next { base with globalEnable := true, elevate := some .sweepDone } ∧
    exec (.registerWrite 58 0xF0) signalled = .next { signalled with globalEnable := false, elevate := none } := ⟨rfl, rfl, rfl⟩

/-! ### The laws of the part hold where leases, a fence, grants, waits and a sweep are all present -/

/-- Slot 0 is RESERVED for cell 0, slot 1 HELD, slot 2 a fence; cell 1 waits for slot 1's range; a sweep of agent 9 has visited slots 0
and 1; and agent 1's request is under way, its RELEASE of slot 1 waiting. -/
def lively : State :=
  let s := ((base.setSlotState 0 (.reserved (entry 2 .shared 12 13).lease 0)).setSlotState 1 (.held (lease 1 .exclusive 20 29) 20000)).setSlotState
    2 (.fence ⟨40, 49⟩)
  { swept (listed (listed s 0 (.granted (entry 2 .shared 12 13) 5000 0)) 1 (.waiting (entry 3 .exclusive 25 25) .conflict none)) (.agent 9) 2 with
    tenure := some ⟨1, .requesting 3⟩, pending := [.release 1 0 0], charges := [5] }

theorem lively_slot (k : SlotNo) : lively.slot k =
    if k = 0 then ⟨0, .reserved (entry 2 .shared 12 13).lease 0⟩ else if k = 1 then ⟨0, .held (lease 1 .exclusive 20 29) 20000⟩
    else if k = 2 then ⟨0, .fence ⟨40, 49⟩⟩ else ⟨0, .free⟩ := by
  revert k; decide +kernel

theorem lively_cell (c : CellNo) : lively.cell c =
    if c = 0 then ⟨0, .granted (entry 2 .shared 12 13) 5000 0⟩ else if c = 1 then ⟨0, .waiting (entry 3 .exclusive 25 25) .conflict none⟩
    else ⟨0, .empty⟩ := by
  revert c; decide +kernel

theorem test_witness_livelyIsLawful : lively.Lawful where
  holders := by
    have h : ∀ k, ∀ c ∈ (lively.slot k).state.claim?, lively.heldAgainst c = false := by decide +kernel
    exact fun j k c d hc hd => (lively.heldAgainst_eq_false_iff d).1 (h k d hd) j c hc
  paired := by
    refine ⟨fun k l c h => ?_, fun c e left k h => ?_⟩
    · rw [lively_slot] at h; split_ifs at h with h0; cases h; subst h0; exact ⟨_, 5000, by decide +kernel, rfl⟩
    · rw [lively_cell] at h; split_ifs at h with h1; cases h; subst h1; decide +kernel
  list := by unfold State.ListSound; decide +kernel
  limits := by unfold State.WithinLimits; decide +kernel
  held := fun k l r h => by rw [lively_slot] at h; split_ifs at h; cases h; decide
  admissible := by
    have h1 : ∀ k, ∀ l ∈ (lively.slot k).state.holding?, admissible lively.map l.owner l.range = true := by decide +kernel
    have h2 : ∀ c, ∀ e ∈ (lively.cell c).state.waiting?, admissible lively.map e.agent e.range = true := by decide +kernel
    exact ⟨fun k l h => h1 k l h, fun c e h => h2 c e h⟩
  sweep := by
    have h : ∀ k, ∀ l ∈ (lively.slot k).state.holding?, lively.sweep.matchesLease l = true → lively.sweep.nextSlot ≤ k.val := by
      decide +kernel
    exact fun k l hl => h k l hl
  barred := by
    have h : ∀ c, ∀ e ∈ (lively.cell c).state.waiting?, lively.standing e.agent ≠ .barred := by decide +kernel
    exact fun c e he => h c e he
  order := fun c d o e left k _ ho hd => by
    rw [lively_cell] at ho hd; split_ifs at hd; cases hd; split_ifs at ho <;> cases ho; decide
  scores := by unfold State.ScoresInRange; decide +kernel
  charges := by unfold State.ChargeQueueSound; decide +kernel
  fields := by unfold State.FieldsInRange; decide +kernel
  ranges := by unfold State.RangesWellFormed; decide +kernel
  quiet := fun h => by cases h
  map := mapSound_lively
  where mapSound_lively : lively.MapSound := by unfold State.MapSound; decide +kernel

/-- With the state above, every law a step is to keep has its premises met: the step takes the RELEASE, and its pass grants cell 1. -/
theorem test_witness_lively_steps : answers (step lively) (fun t => t.slot 1 == ⟨1, .reserved (entry 3 .exclusive 25 25).lease 1⟩ &&
    t.pending == []) = true := by decide +kernel

theorem test_witness_OccupanciesKeepTheirNames : (∃ t, exec (.release 1 0 0) lively = .next t) ∧ Instr.release 1 0 0 ≠ .resetHeld ∧
    (∀ g n l, Instr.release 1 0 0 ≠ .powerOn g n l) ∧ (lively.slot 1).state ≠ .free ∧ (lively.cell 0).state ≠ .empty :=
  ⟨⟨_, rfl⟩, by decide, fun _ _ _ h => (by cases h), by decide +kernel, by decide +kernel⟩

/-- The state above with slots 126 and 127 LAPSED and REVOKED, cells 62 and 63 waiting with a limit and ended, and this sweep record. -/
def pictured (w : SweepRecord) : State :=
  let s := (lively.setSlotState 126 (.lapsed (lease 4 .shared 50 59) 1)).setSlotState 127 (.revoked (lease 4 .exclusive 60 69) 16000)
  { listed (listed s 62 (.waiting (entry 5 .shared 12 12) .noSlot (some 65534000))) 63 (.ended (entry 5 .shared 5 5) .timedOut 0) with
    sweep := w }

/-- The premises of SnapshotImageWords are met, with every kind of record, by the state above under each kind of sweep. -/
theorem test_witness_SnapshotImageWords : ∀ k ∈ [none, some (SweepKind.range ⟨0, 5⟩ true), some (.agent 9)],
    (pictured ⟨.completed, k, 128, 128, 0⟩).ListSound ∧ (pictured ⟨.completed, k, 128, 128, 0⟩).FieldsInRange ∧
    (pictured ⟨.completed, k, 128, 128, 0⟩).ScoresInRange ∧ (pictured ⟨.completed, k, 128, 128, 0⟩).WithinLimits := by
  unfold State.ListSound State.FieldsInRange State.ScoresInRange State.WithinLimits
  decide +kernel

/-- Which record each clause of SnapshotImageWords finds there. -/
theorem test_witness_SnapshotImageWords_records (w : SweepRecord) : ((pictured w).slot 3).state = .free ∧
    ((pictured w).slot 2).state = .fence ⟨40, 49⟩ ∧ ((pictured w).slot 0).state = .reserved (entry 2 .shared 12 13).lease 0 ∧
    ((pictured w).slot 1).state = .held (lease 1 .exclusive 20 29) 20000 ∧ ((pictured w).slot 126).state = .lapsed (lease 4 .shared 50 59) 1 ∧
    ((pictured w).slot 127).state = .revoked (lease 4 .exclusive 60 69) 16000 ∧ ((pictured w).cell 2).state = .empty ∧
    ((pictured w).cell 1).state = .waiting (entry 3 .exclusive 25 25) .conflict none ∧
    ((pictured w).cell 62).state = .waiting (entry 5 .shared 12 12) .noSlot (some 65534000) ∧
    ((pictured w).cell 0).state = .granted (entry 2 .shared 12 13) 5000 0 ∧
    ((pictured w).cell 63).state = .ended (entry 5 .shared 5 5) .timedOut 0 ∧ (pictured w).sweep = w := by
  and_intros <;> rfl

/-- The image of cell 62, word for word (13.5): agent 5, reason NO_SLOT, wait left 65,534, position 2. -/
theorem test_waitImage : (pictured powerOnSweep).waitImage 62 =
    #v[0x0200003E, 0x4FBF, 0x08050100, 12, 12, 0x0002001E, 0xFFFE, 0x200, 0, 0, 0, 0x0200003E] := by decide +kernel

/-- The image of agent 31 at power-on with its port ATTACHED (13.5). -/
theorem test_agentImage : base.agentImage 31 =
    #v[0x0300001F, 0x1FFFFF, 0x806, 0x020A2864, 0x010A2864, 0x01022864, 0, 0, 0, 0, 0, 0x0300001F] := by decide +kernel

/-- The image of a RANGE sweep that cancels waiters, at slot 2 (13.5). -/
theorem test_sweepImage : (swept base (.range ⟨5, 6⟩ true) 2).sweepImage =
    #v[0x04000000, 0x1F7, 0x51, 5, 6, 0x90002, 0, 0, 0, 0, 0, 0x04000000] := by decide +kernel

end Sys2Proof.Tests
end

section
/-! SUPPORT. What one step can do to the tables, said once: every command is a run of changes of the kinds of `Change`, and the few
events at the check port, power-on and RESET stand beside them in `StepShape`. An invariant is then proved kind by kind. -/

namespace Sys2Proof.Machine

/-! ### The kinds of change -/

/-- What a change may do to the state of a slot that was not FREE, and to one that stays as it is. A FREE slot is filled by the changes
`acquired`, `fenced` and `granted` alone. -/
inductive SlotMove (s : State) : SlotState → SlotState → Prop where
  | stays (x : SlotState) : SlotMove s x x
  | freed (x : SlotState) : SlotMove s x .free
  | renewed (l : AgentLease) (r : Nat) (term : BitVec 16) (hterm : term = l.term ∨ term ≠ 0) (hbudget : l.budget ≠ 0) :
      SlotMove s (.held l r) (.held { l with term := term, budget := l.budget - 1 } (units term.toNat))
  | lapsed (l : AgentLease) (r : Nat) : SlotMove s (.held l r) (.lapsed l s.holdAmount)
  | heldRevoked (l : AgentLease) (r : Nat) : SlotMove s (.held l r) (.revoked l s.holdAmount)
  | lapsedRevoked (l : AgentLease) (r : Nat) : SlotMove s (.lapsed l r) (.revoked l s.holdAmount)
  | collected (l : AgentLease) (c : CellNo) :
      SlotMove s (.reserved l c) (.held { l with budget := l.allowance } (units l.term.toNat))
  | elapsed (d : Nat) (x : SlotState) : SlotMove s x (x.elapse d)

/-- What a change may do to the state of a cell that it does not empty. -/
inductive CellMove (s : State) : CellState → CellState → Prop where
  | stays (x : CellState) : CellMove s x x
  | readied (e : WaitEntry) (r : Reason) (w : Option Nat) (o : Ending) :
      CellMove s (.waiting e r w) (.ended e o s.collectAmount)
  | grantCancelled (e : WaitEntry) (left : Nat) (k : SlotNo) : CellMove s (.granted e left k) (.ended e .cancelled left)
  | elapsed (d : Nat) (x : CellState) : CellMove s x (x.elapse d)

/-- What a change may do to the record of agent `a`. -/
inductive AgentMove (s : State) (a : AgentNo) : AgentRecord → AgentRecord → Prop where
  | stays (r : AgentRecord) : AgentMove s a r r
  | charged (r : AgentRecord) (n : ScoreName) : AgentMove s a r (r.charged n)
  | credited (r : AgentRecord) : AgentMove s a r r.credited
  | cleared (r : AgentRecord) : AgentMove s a r r.cleared
  | settings (r : AgentRecord) (o b t : ScoreSettings) (ho : o.InRange) (hb : b.InRange) (ht : t.InRange) :
      AgentMove s a r (r.withSettings o b t)
  | port (r : AgentRecord) (c : ArbiterClass) (limit : Nat) (hmax : limit ≤ 16) (howned : s.ownedSlots a ≤ limit) :
      AgentMove s a r { r with arbiterClass := c, leaseLimit := limit }

/-- What a change may make of the sweep record. -/
inductive SweepMove (s : State) : SweepRecord → Prop where
  | begun (k : SweepKind) (hr : s.resetHeld = false) (hs : s.sweep.status ≠ .inProgress) (hk : s.sweepParams = some k) :
      SweepMove s ⟨.inProgress, some k, 0, 0, 9⟩
  | advanced (revoked : Nat) (hs : s.sweep.status = .inProgress) (hn : s.sweep.nextSlot < 128) (hr : revoked ≤ 1) :
      SweepMove s (s.sweep.advanced (s.sweep.nextSlot + 1) revoked)
  | ended (st : SweepStatus) (hs : s.sweep.status = .inProgress) : SweepMove s { s.sweep with status := st }

/-- The two states hold the same tables, map and part-wide settings. -/
structure SameTables (s t : State) : Prop where
  granule64 : t.granule64 = s.granule64 := by rfl
  map : t.map = s.map := by rfl
  holdPeriod : t.holdPeriod = s.holdPeriod := by rfl
  collectWindow : t.collectWindow = s.collectWindow := by rfl
  slots : t.slots = s.slots := by rfl
  cells : t.cells = s.cells := by rfl
  order : t.order = s.order := by rfl
  agents : t.agents = s.agents := by rfl
  sweep : t.sweep = s.sweep := by rfl

/-- A change outside the tables and the check port: it starts no tenure, holds no image and sets no enable while RESET is held. -/
structure Outside (s t : State) : Prop extends SameTables s t where
  resetHeld : t.resetHeld = s.resetHeld := by rfl
  charges : t.charges = s.charges := by rfl
  presented : t.presented = s.presented := by rfl
  ckAnswer : t.ckAnswer = s.ckAnswer := by rfl
  tenure : s.resetHeld = true → s.tenure = none → t.tenure = none := by exact fun _ h => h
  snapshot : s.resetHeld = true → s.snapshot = none → t.snapshot = none := by exact fun _ h => h
  globalEnable : s.resetHeld = true → t.globalEnable = s.globalEnable := by exact fun _ => rfl

/-- One change of the part. The commands are made of these; none of them touches the charge queue or the check port. -/
inductive Change : State → State → Prop where
  | outside {s t : State} (h : Outside s t) : Change s t
  | slots (s : State) (v : Vector LeaseSlot 128) (h : ∀ k : SlotNo, SlotMove s (s.slot k).state v[k].state) :
      Change s { s with slots := v }
  | cells (s : State) (v : Vector WaitCell 64) (gone : CellNo → Bool) (hgone : ∀ c : CellNo, gone c = true → v[c].state = .empty)
      (hkept : ∀ c : CellNo, gone c = false → CellMove s (s.cell c).state v[c].state) :
      Change s { s with cells := v, order := s.order.filter fun c => !gone c }
  | agents (s : State) (v : Vector AgentRecord 32) (h : ∀ a : AgentNo, AgentMove s a (s.agent a) v[a]) :
      Change s { s with agents := v }
  | sweep (s : State) (r : SweepRecord) (h : SweepMove s r) : Change s { s with sweep := r }
  | profile (s : State) (h : s.loadRefusal = none) :
      Change s { s with
        map := (readProfile s.staging).map
        holdPeriod := (readProfile s.staging).holdPeriod
        collectWindow := (readProfile s.staging).collectWindow }
  | acquired (s : State) (a : AgentNo) (w0 : Word) (q : AcquireFields) (m : LeaseMode) (k : SlotNo)
      (hq : s.AcquireGoesOn a w0 q m) (hk : s.immediate (q.entry a m).claim = .grant k) :
      Change s (s.setSlotState k (.held (q.entry a m).lease (units q.term.toNat)))
  | deferred (s : State) (a : AgentNo) (w0 : Word) (q : AcquireFields) (m : LeaseMode) (r : Reason) (c : CellNo)
      (hq : s.AcquireGoesOn a w0 q m) (hr : s.immediate (q.entry a m).claim = .blocked r) (htickets : s.ticketCount a < 4)
      (hc : s.LowestEmptyIs c) :
      Change s { s.setCellState c (.waiting (q.entry a m) r (waitTimer q.waitLimit)) with order := s.order ++ [c] }
  | fenced (s : State) (r : GranuleRange) (k : SlotNo) (hr : s.resetHeld = false) (hw : s.WellFormedRange r)
      (hl : s.leaseOn r = false) (hk : s.LowestFreeIs k) : Change s (s.setSlotState k (.fence r))
  | granted (s : State) (c : CellNo) (e : WaitEntry) (r : Reason) (w : Option Nat) (k : SlotNo)
      (hc : (s.cell c).state = .waiting e r w) (hk : s.LowestFreeIs k) (hm : s.mayGrant c e = true) :
      Change s (s.grantEntry c e k)

/-- A run of changes. -/
abbrev Changes : State → State → Prop := Relation.ReflTransGen Change

theorem Changes.keeps {P : State → Prop} (hP : ∀ s t, Change s t → P s → P t) {s t : State} (h : Changes s t) (hs : P s) : P t := by
  induction h with
  | refl => exact hs
  | tail _ h ih => exact hP _ _ h ih

theorem changes_of_outside {s t : State} (h : Outside s t) : Changes s t := .single (.outside h)

/-! ### Slots -/

theorem changes_setSlot {s : State} {k : SlotNo} {x : LeaseSlot} (h : SlotMove s (s.slot k).state x.state) :
    Changes s (s.setSlot k x) := by
  refine .single (.slots s _ fun j => ?_)
  change SlotMove s (s.slot j).state ((s.setSlot k x).slot j).state
  rw [State.slot_setSlot]
  split
  · next hj => exact hj ▸ h
  · exact .stays _

theorem changes_setSlotState {s : State} {k : SlotNo} {x : SlotState} (h : SlotMove s (s.slot k).state x) :
    Changes s (s.setSlotState k x) := changes_setSlot h

theorem changes_freeSlot (s : State) (k : SlotNo) : Changes s (s.freeSlot k) :=
  changes_setSlot ((s.slot k).state_freed ▸ .freed _)

theorem changes_freeReserved (s : State) (k : SlotNo) : Changes s (s.freeReserved k) := by
  unfold State.freeReserved
  split
  · exact changes_freeSlot s k
  · exact .refl

theorem changes_freeSlotsWhere (s : State) (p : SlotState → Bool) : Changes s (s.freeSlotsWhere p) := by
  refine .single (.slots s _ fun k => ?_)
  change SlotMove s (s.slot k).state ((s.freeSlotsWhere p).slot k).state
  rw [State.slot_freeSlotsWhere]
  split
  · exact (s.slot k).state_freed ▸ .freed _
  · exact .stays _

theorem changes_collectSlot (s : State) (k : SlotNo) : Changes s (s.collectSlot k) := by
  unfold State.collectSlot
  split
  · next l c h => exact changes_setSlotState (h ▸ .collected l c)
  · exact .refl

theorem changes_revokeLease_of_held {s : State} {k : SlotNo} {l : AgentLease} {r : Nat} (h : (s.slot k).state = .held l r) :
    Changes s (s.revokeLease k l) := changes_setSlotState (h ▸ .heldRevoked l r)

theorem changes_revokeLease_of_lapsed {s : State} {k : SlotNo} {l : AgentLease} {r : Nat} (h : (s.slot k).state = .lapsed l r) :
    Changes s (s.revokeLease k l) := changes_setSlotState (h ▸ .lapsedRevoked l r)

/-! ### Cells -/

/-- A change that empties no cell leaves the list as it is. -/
theorem changes_cells_of_moves {s : State} {v : Vector WaitCell 64} (h : ∀ c : CellNo, CellMove s (s.cell c).state v[c].state) :
    Changes s { s with cells := v } := by
  have h' := Change.cells s v (fun _ => false) (fun _ hc => absurd hc Bool.false_ne_true) fun c _ => h c
  simp only [Bool.not_false, List.filter_true] at h'
  exact .single h'

theorem changes_setCell {s : State} {c : CellNo} {x : WaitCell} (h : CellMove s (s.cell c).state x.state) :
    Changes s (s.setCell c x) := by
  refine changes_cells_of_moves fun d => ?_
  change CellMove s (s.cell d).state ((s.setCell c x).cell d).state
  rw [State.cell_setCell]
  split
  · next hd => exact hd ▸ h
  · exact .stays _

theorem CellMove.of_readied (s : State) (x : WaitCell) (p : WaitEntry → Bool) (o : Ending) :
    CellMove s x.state (x.readied p o s.collectAmount).state := by
  obtain h | ⟨e, r, w, hx, _, h⟩ := x.readied_eq p o s.collectAmount
  · rw [h]; exact .stays _
  · rw [h, hx]; exact .readied e r w o

theorem changes_readyWhere (s : State) (p : WaitEntry → Bool) (o : Ending) : Changes s (s.readyWhere p o) := by
  refine changes_cells_of_moves fun c => ?_
  change CellMove s (s.cell c).state ((s.readyWhere p o).cell c).state
  rw [State.cell_readyWhere]
  exact .of_readied s _ p o

theorem changes_readyCell (s : State) (c : CellNo) (o : Ending) : Changes s (s.readyCell c o) :=
  changes_setCell (.of_readied s _ _ o)

theorem changes_cancelGrant (s : State) (c : CellNo) : Changes s (s.cancelGrant c) := by
  unfold State.cancelGrant
  split
  · next e left k h => exact changes_setCell (h ▸ .grantCancelled e left k)
  · exact .refl

theorem changes_emptyCell (s : State) (c : CellNo) : Changes s (s.emptyCell c) := by
  refine .single (.cells s _ (fun d => d == c) (fun d hd => ?_) fun d hd => ?_)
  · change ((s.emptyCell c).cell d).state = .empty
    rw [State.cell_emptyCell, if_pos (beq_iff_eq.1 hd).symm, WaitCell.state_emptied]
  · change CellMove s (s.cell d).state ((s.emptyCell c).cell d).state
    rw [State.cell_emptyCell, if_neg fun h => beq_eq_false_iff_ne.1 hd h.symm]
    exact .stays _

theorem changes_emptyCellsWhere (s : State) (p : CellState → Bool) : Changes s (s.emptyCellsWhere p) := by
  refine .single (.cells s _ (fun c => p (s.cell c).state) (fun c hc => ?_) fun c hc => ?_)
  · change ((s.emptyCellsWhere p).cell c).state = .empty
    rw [State.cell_emptyCellsWhere, if_pos hc, WaitCell.state_emptied]
  · change CellMove s (s.cell c).state ((s.emptyCellsWhere p).cell c).state
    rw [State.cell_emptyCellsWhere, hc]
    exact .stays _

/-! ### The grant pass -/

theorem changes_grantPass (s : State) : Changes s s.grantPass :=
  s.grantPass_induct (Changes s) (fun t c e r w k ht hc hk hm => ht.tail (.granted t c e r w k hc hk hm)) .refl

theorem changes_passIfReadied (before after : State) : Changes after (before.passIfReadied after) := by
  unfold State.passIfReadied
  split
  · exact changes_grantPass after
  · exact .refl

/-! ### Agents, interrupts and results -/

theorem changes_raise (s : State) (x : Source) (d : Nat) : Changes s (s.raise x d) := changes_of_outside {}

theorem changes_finish (s : State) (r : ResultCode) (v w : Word) : Changes s (s.finish r v w) := changes_of_outside {}

theorem changes_conclude (s : State) (r : ResultCode) : Changes s (s.conclude r) := changes_finish s r 0 0

theorem changes_setAgent {s : State} {a : AgentNo} {r : AgentRecord} (h : AgentMove s a (s.agent a) r) :
    Changes s (s.setAgent a r) := by
  refine .single (.agents s _ fun b => ?_)
  change AgentMove s b (s.agent b) ((s.setAgent a r).agent b)
  rw [State.agent_setAgent]
  split
  · next hb => exact hb ▸ h
  · exact .stays _

theorem changes_standingChanged (s : State) (a : AgentNo) (old : Standing) : Changes s (s.standingChanged a old) := by
  unfold State.standingChanged
  split
  · exact .refl
  · split
    · exact (changes_raise _ _ _).trans (changes_readyWhere _ _ _)
    · exact changes_raise _ _ _
    · exact .refl

theorem changes_updateConduct {s : State} {a : AgentNo} {r : AgentRecord} (h : Changes s (s.setAgent a r)) :
    Changes s (s.updateConduct a r) := h.trans (changes_standingChanged _ _ _)

theorem changes_charge (s : State) (a : AgentNo) (n : ScoreName) : Changes s (s.charge a n) :=
  changes_updateConduct (changes_setAgent (.charged _ n))

theorem changes_credit (s : State) (a : AgentNo) : Changes s (s.credit a) :=
  changes_updateConduct (changes_setAgent (.credited _))

/-! ### What an outcome comes to -/

/-- The outcome is a next state, which a run of changes leads to. -/
def ChangesTo (s : State) (o : Host.Outcome State Fault Refusal) : Prop := ∃ t, o = .next t ∧ Changes s t

theorem Changes.next {s t : State} (h : Changes s t) : ChangesTo s (.next t) := ⟨t, rfl, h⟩

theorem changes_unlessReset {s : State} {f : State → State} (h : s.resetHeld = false → Changes s (f s)) :
    Changes s (s.unlessReset f) := by
  unfold State.unlessReset
  split
  · exact .refl
  · next hr => exact h (Bool.eq_false_of_not_eq_true hr)

/-! ### Requests (R71 to R108) -/

/-- A request row is a run of changes when serving the request is one that leaves the tenure alone. -/
theorem changes_takeRequest {s : State} {kind : Option RequestKind} {serve : AgentNo → Word → State × Answer}
    (h : ∀ a w0, s.Requesting a w0 kind → Changes s (serve a w0).1)
    (ht : ∀ a w0, (serve a w0).1.tenure = s.tenure) : Changes s (s.takeRequest kind serve) := by
  by_cases hq : ∃ a w0, s.Requesting a w0 kind
  · obtain ⟨a, w0, hq⟩ := hq
    rw [State.takeRequest_of_requesting hq]
    refine (h a w0 hq).trans (changes_of_outside { tenure := fun _ hn => ?_ })
    rw [ht, hq.1] at hn
    cases hn
  · rw [State.takeRequest_of_not fun a w0 h => hq ⟨a, w0, h⟩]
    exact changes_of_outside {}

@[simp] theorem State.grantPass_tenure (s : State) : s.grantPass.tenure = s.tenure := by rw [State.grantPass_frame]

@[simp] theorem State.credit_tenure (s : State) (a : AgentNo) : (s.credit a).tenure = s.tenure := by
  rw [State.credit, State.updateConduct_frame]

@[simp] theorem State.collectSlot_tenure (s : State) (k : SlotNo) : (s.collectSlot k).tenure = s.tenure := by
  unfold State.collectSlot
  split <;> rfl

@[simp] theorem State.freeReserved_tenure (s : State) (k : SlotNo) : (s.freeReserved k).tenure = s.tenure := by
  unfold State.freeReserved
  split <;> rfl

theorem State.acquireOrWait_tenure (s : State) (e : WaitEntry) (limit : BitVec 16) :
    (s.acquireOrWait e limit).1.tenure = s.tenure := by
  unfold State.acquireOrWait
  split
  · rfl
  · next r _ =>
    unfold State.blockedAcquire
    split
    · cases r <;> rfl
    · split
      · rfl
      · split
        · rfl
        · cases r <;> rfl

/-- An ACQUIRE that is not answered at once with no change has passed the refusals of R70 to R75. -/
theorem State.serveAcquire_refused_or_goesOn (s : State) (a : AgentNo) (q : AcquireFields) :
    (s.serveAcquire a q).1 = s ∨ ∃ m, (∀ w0, s.Requesting a w0 (some .acquire) → s.AcquireGoesOn a w0 q m) ∧
      s.serveAcquire a q = s.acquireOrWait (q.entry a m) q.waitLimit := by
  unfold State.serveAcquire
  split
  · exact .inl rfl
  · next hmal =>
    obtain ⟨m, hin⟩ := (s.malformedAcquire_eq_false_iff q).1 (Bool.eq_false_of_not_eq_true hmal)
    simp only [hin.1]
    split_ifs with hbar hadm hsweep hlimit
    · exact .inl rfl
    · exact .inl rfl
    · exact .inl rfl
    · exact .inl rfl
    · refine .inr ⟨m, fun w0 hr => ⟨hr, hin, hbar, by simpa using hadm, ?_, Nat.not_le.1 hlimit⟩, rfl⟩
      rwa [← SweepRecord.refusesAcquire_iff]

theorem changes_blockedAcquire {s : State} {a : AgentNo} {w0 : Word} {q : AcquireFields} {m : LeaseMode} {r : Reason}
    (hq : s.AcquireGoesOn a w0 q m) (hr : s.immediate (q.entry a m).claim = .blocked r) :
    Changes s (s.blockedAcquire (q.entry a m) r q.waitLimit).1 := by
  unfold State.blockedAcquire
  split_ifs with hlimit htickets
  · cases r
    · exact .refl
    · exact .refl
    · exact changes_raise _ _ _
  · exact .refl
  · cases hc : s.lowestEmpty with
    | none => exact changes_raise _ _ _
    | some c =>
      have hdefer := Change.deferred s a w0 q m r c hq hr (Nat.not_le.1 htickets) ((s.lowestEmpty_eq_some_iff c).1 hc)
      cases r
      · exact .single hdefer
      · exact .single hdefer
      · exact .tail (.single hdefer) (.outside {})

theorem changes_acquireOrWait {s : State} {a : AgentNo} {w0 : Word} {q : AcquireFields} {m : LeaseMode}
    (hq : s.AcquireGoesOn a w0 q m) : Changes s (s.acquireOrWait (q.entry a m) q.waitLimit).1 := by
  unfold State.acquireOrWait
  cases hi : s.immediate (q.entry a m).claim with
  | grant k => exact .single (.acquired s a w0 q m k hq hi)
  | blocked r => exact changes_blockedAcquire hq hi

theorem changes_serveAcquire (s : State) (a : AgentNo) (q : AcquireFields) :
    (∀ w0, s.Requesting a w0 (some .acquire) → Changes s (s.serveAcquire a q).1) ∧
      (s.serveAcquire a q).1.tenure = s.tenure := by
  obtain h | ⟨m, hq, h⟩ := s.serveAcquire_refused_or_goesOn a q
  · rw [h]
    exact ⟨fun _ _ => .refl, rfl⟩
  · rw [h]
    exact ⟨fun w0 hr => changes_acquireOrWait (hq w0 hr), s.acquireOrWait_tenure _ _⟩

theorem AgentLease.withTerm_eq (l : AgentLease) (n : BitVec 16) :
    l.withTerm n = { l with term := if n = 0 then l.term else n } := by
  unfold AgentLease.withTerm
  split <;> rfl

theorem changes_renewLease {s : State} {k : SlotNo} {l : AgentLease} {r : Nat} (h : (s.slot k).state = .held l r)
    (hb : l.budget ≠ 0) (n : BitVec 16) : Changes s (s.renewLease k (l.withTerm n)) := by
  rw [AgentLease.withTerm_eq]
  refine changes_setSlotState (h ▸ .renewed l r _ ?_ hb)
  split
  · exact .inl rfl
  · next hn => exact .inr hn

theorem State.budget_ne_zero_of_renewRefusal {s : State} {a : AgentNo} {l : AgentLease} (h : s.renewRefusal a l = none) :
    l.budget ≠ 0 := by
  intro hb
  unfold State.renewRefusal at h
  split_ifs at h

theorem changes_serveRenew (s : State) (a : AgentNo) (h : Handle) (n : BitVec 16) :
    Changes s (s.serveRenew a h n).1 ∧ (s.serveRenew a h n).1.tenure = s.tenure := by
  unfold State.serveRenew
  split_ifs
  · exact ⟨.refl, rfl⟩
  · exact ⟨.refl, rfl⟩
  · cases hst : (s.slot h.slot).state with
    | held l r =>
      dsimp only
      unfold State.renewHeld
      split
      · exact ⟨.refl, rfl⟩
      · next hn => exact ⟨changes_renewLease hst (State.budget_ne_zero_of_renewRefusal hn) n, rfl⟩
    | _ => exact ⟨.refl, rfl⟩

theorem changes_serveRelease (s : State) (a : AgentNo) (h : Handle) :
    Changes s (s.serveRelease a h).1 ∧ (s.serveRelease a h).1.tenure = s.tenure := by
  have hfree := changes_freeSlot s h.slot
  have hpass := hfree.trans (changes_grantPass _)
  unfold State.serveRelease
  split_ifs
  · exact ⟨.refl, rfl⟩
  · exact ⟨.refl, rfl⟩
  · cases (s.slot h.slot).state with
    | held l r => exact ⟨(hfree.trans (changes_credit _ a)).trans (changes_grantPass _), by simp⟩
    | lapsed l r => exact ⟨hpass, by simp⟩
    | revoked l r => exact ⟨hpass, by simp⟩
    | _ => exact ⟨.refl, rfl⟩

theorem changes_servePoll (s : State) (a : AgentNo) (t : Ticket) :
    Changes s (s.servePoll a t).1 ∧ (s.servePoll a t).1.tenure = s.tenure := by
  unfold State.servePoll
  split_ifs
  · exact ⟨.refl, rfl⟩
  · exact ⟨.refl, rfl⟩
  · cases (s.cell t.cell).state with
    | granted e left k => exact ⟨(changes_collectSlot s k).trans (changes_emptyCell _ _), by simp⟩
    | ended e o left => exact ⟨changes_emptyCell _ _, rfl⟩
    | _ => exact ⟨.refl, rfl⟩

theorem changes_serveWithdraw (s : State) (a : AgentNo) (t : Ticket) :
    Changes s (s.serveWithdraw a t).1 ∧ (s.serveWithdraw a t).1.tenure = s.tenure := by
  unfold State.serveWithdraw
  split_ifs
  · exact ⟨.refl, rfl⟩
  · exact ⟨.refl, rfl⟩
  · cases (s.cell t.cell).state with
    | waiting e r w => exact ⟨(changes_emptyCell s _).trans (changes_grantPass _), by simp⟩
    | granted e left k =>
      exact ⟨((changes_freeReserved s k).trans (changes_emptyCell _ _)).trans (changes_grantPass _), by simp⟩
    | ended e o left => exact ⟨changes_emptyCell _ _, rfl⟩
    | empty => exact ⟨.refl, rfl⟩

theorem execAcquire_changes (w1 w2 w3 : Word) (s : State) : ChangesTo s (execAcquire w1 w2 w3 s) :=
  (changes_takeRequest (fun _ w0 h => (changes_serveAcquire s _ _).1 w0 h) fun _ _ => (changes_serveAcquire s _ _).2).next

theorem execRenew_changes (w1 w2 w3 : Word) (s : State) : ChangesTo s (execRenew w1 w2 w3 s) :=
  (changes_takeRequest (fun _ _ _ => (changes_serveRenew s _ _ _).1) fun _ _ => (changes_serveRenew s _ _ _).2).next

theorem execRelease_changes (w1 w2 w3 : Word) (s : State) : ChangesTo s (execRelease w1 w2 w3 s) :=
  (changes_takeRequest (fun _ _ _ => (changes_serveRelease s _ _).1) fun _ _ => (changes_serveRelease s _ _).2).next

theorem execPoll_changes (w1 w2 w3 : Word) (s : State) : ChangesTo s (execPoll w1 w2 w3 s) :=
  (changes_takeRequest (fun _ _ _ => (changes_servePoll s _ _).1) fun _ _ => (changes_servePoll s _ _).2).next

theorem execWithdraw_changes (w1 w2 w3 : Word) (s : State) : ChangesTo s (execWithdraw w1 w2 w3 s) :=
  (changes_takeRequest (fun _ _ _ => (changes_serveWithdraw s _ _).1) fun _ _ => (changes_serveWithdraw s _ _).2).next

theorem execUnknownRequest_changes (w1 w2 w3 : Word) (s : State) : ChangesTo s (execUnknownRequest w1 w2 w3 s) :=
  (changes_takeRequest (s := s) (fun _ _ _ => .refl) fun _ _ => rfl).next

theorem execFirstRequestWord_changes (w0 : Word) (s : State) : ChangesTo s (execFirstRequestWord w0 s) := by
  refine Changes.next ?_
  split
  · next a n h => exact changes_of_outside { tenure := fun _ hn => absurd (hn.symm.trans h) nofun }
  · exact changes_of_outside {}

/-! ### The bus, attach and detach (R58 to R67, R120, R121) -/

theorem changes_choose {s : State} (hr : s.resetHeld = false) : Changes s s.choose := by
  have htenure (x : Option Tenure) : s.resetHeld = true → s.tenure = none → x = none :=
    fun h => absurd (hr.symm.trans h) Bool.false_ne_true
  unfold State.choose
  split
  · exact .refl
  · split
    · unfold State.grantBus
      split <;> exact changes_of_outside { tenure := htenure _ }
    · exact .refl

theorem execArbiterChoice_changes (req : Word) (s : State) : ChangesTo s (execArbiterChoice req s) := by
  have hreq : Changes s { s with req := req } := changes_of_outside {}
  exact Changes.next (hreq.trans (changes_unlessReset changes_choose))

theorem execTenureEnd_changes (s : State) : ChangesTo s (execTenureEnd s) := by
  refine Changes.next ?_
  split
  · exact changes_of_outside { tenure := fun _ _ => rfl }
  · exact changes_of_outside {}

theorem execTenureLimitExpiry_changes (s : State) : ChangesTo s (execTenureLimitExpiry s) := by
  refine Changes.next ?_
  split
  · exact changes_of_outside { tenure := fun _ _ => rfl }
  · exact .refl

theorem execAttach_changes (a : AgentNo) (s : State) : ChangesTo s (execAttach a s) :=
  (changes_of_outside {}).next

theorem changes_endTenureOf (s : State) (a : AgentNo) : Changes s (s.endTenureOf a) := by
  unfold State.endTenureOf
  split
  · split
    · exact changes_of_outside { tenure := fun _ _ => rfl }
    · exact .refl
  · exact .refl

theorem changes_detached (s : State) (a : AgentNo) : Changes s (s.detached a) :=
  ((((changes_endTenureOf s a).trans (changes_freeSlotsWhere _ _)).trans (changes_emptyCellsWhere _ _)).trans
    (changes_raise _ _ _)).trans (changes_grantPass _)

theorem execDetach_changes (a : AgentNo) (s : State) : ChangesTo s (execDetach a s) := by
  have hline : Changes s { s with attach := setLine s.attach a false } := changes_of_outside {}
  refine Changes.next ?_
  split
  · exact hline.trans (changes_unlessReset fun _ => changes_detached _ a)
  · exact hline

/-! ### Expiries and time (R40 to R46, R109, R110, R18) -/

theorem State.budget_ne_zero_of_renewsItself {s : State} {l : AgentLease} (h : s.renewsItself l = true) : l.budget ≠ 0 := by
  rw [State.renewsItself, Bool.and_eq_true, State.renewsButForSweep_iff] at h
  obtain ⟨⟨_, hbudget, _⟩, _⟩ := h
  exact hbudget

theorem changes_lapse {s : State} {k : SlotNo} {l : AgentLease} {r : Nat} (h : (s.slot k).state = .held l r) :
    Changes s (s.lapse k l) := by
  have hslot : Changes s (s.setSlotState k (.lapsed l s.holdAmount)) := changes_setSlotState (h ▸ .lapsed l r)
  refine Relation.ReflTransGen.trans ?_ (changes_raise _ _ _)
  unfold State.chargeLapse
  split
  · exact hslot.trans (changes_charge _ _ _)
  · exact hslot

theorem changes_termRunsOut {s : State} {k : SlotNo} {l : AgentLease} {r : Nat} (h : (s.slot k).state = .held l r) :
    Changes s (s.termRunsOut k l) := by
  unfold State.termRunsOut
  split
  · next hl => exact changes_renewLease h (State.budget_ne_zero_of_renewsItself hl) 0
  · exact (changes_lapse h).trans (changes_passIfReadied _ _)

theorem execTermExpiry_changes (k : SlotNo) (s : State) : ChangesTo s (execTermExpiry k s) := by
  refine Changes.next ?_
  split
  · next l h =>
    split
    · exact .refl
    · exact changes_termRunsOut h
  · exact .refl

theorem execHoldExpiry_changes (k : SlotNo) (s : State) : ChangesTo s (execHoldExpiry k s) := by
  have hfreed : Changes s (if s.frozen then s else (s.freeSlot k).grantPass) := by
    split
    · exact .refl
    · exact (changes_freeSlot s k).trans (changes_grantPass _)
  refine Changes.next ?_
  split
  · exact hfreed
  · exact hfreed
  · exact .refl

theorem execWaitLimitExpiry_changes (c : CellNo) (s : State) : ChangesTo s (execWaitLimitExpiry c s) := by
  refine Changes.next ?_
  split
  · split
    · exact .refl
    · exact (changes_readyCell s c _).trans (changes_grantPass _)
  · exact .refl

theorem changes_abandonGrant (s : State) (c : CellNo) (a : AgentNo) (k : SlotNo) : Changes s (s.abandonGrant c a k) :=
  ((((changes_freeReserved s k).trans (changes_emptyCell _ c)).trans (changes_charge _ a _)).trans (changes_raise _ _ _)).trans
    (changes_grantPass _)

theorem execCollectionExpiry_changes (c : CellNo) (s : State) : ChangesTo s (execCollectionExpiry c s) := by
  refine Changes.next ?_
  split
  · split
    · exact .refl
    · exact changes_abandonGrant s c _ _
  · split
    · exact .refl
    · exact changes_emptyCell s c
  · exact .refl

theorem changes_elapseTimers (s : State) (d : Nat) : Changes s (s.elapseTimers d) := by
  refine Relation.ReflTransGen.trans (.single (.slots s (s.slots.map fun x => ⟨x.generation, x.state.elapse d⟩) fun k => ?_))
    (changes_cells_of_moves fun c => ?_)
  · simp only [Fin.getElem_fin, Vector.getElem_map]
    exact .elapsed d _
  · simp only [Fin.getElem_fin, Vector.getElem_map]
    exact .elapsed d _

theorem changes_elapseTenure (s : State) : Changes s s.elapseTenure := by
  unfold State.elapseTenure
  split
  · next h => exact changes_of_outside { tenure := fun _ hn => absurd (hn.symm.trans h) nofun }
  · exact .refl

theorem changes_passMicrosecond (s : State) : Changes s s.passMicrosecond := by
  have htimers : Changes s (if s.frozen then s else s.elapseTimers (unitStep s.unitCode)) := by
    split
    · exact .refl
    · exact changes_elapseTimers s _
  exact (htimers.trans (changes_elapseTenure _)).trans (changes_of_outside {})

/-! ### Agents' settings (R133 to R136) -/

theorem inRange_of_settingsParam {w : Word} {x : ScoreSettings} (h : settingsParam w = some x) : x.InRange := by
  unfold settingsParam at h
  split at h
  · cases h
  · split at h
    · next hin =>
      cases h
      exact hin
    · cases h

theorem inRange_of_conductParams {ps : Vector Word 6} {o a t : ScoreSettings} (h : conductParams ps = some (o, a, t)) :
    o.InRange ∧ a.InRange ∧ t.InRange := by
  unfold conductParams at h
  split at h
  · next ho ha ht =>
    cases h
    exact ⟨inRange_of_settingsParam ho, inRange_of_settingsParam ha, inRange_of_settingsParam ht⟩
  · cases h

theorem limit_le_of_portParams {ps : Vector Word 6} {c : ArbiterClass} {limit : Nat} (h : portParams ps = some (c, limit)) :
    limit ≤ 16 := by
  unfold portParams at h
  split at h
  · cases h
  · split at h
    · next hin =>
      cases h
      exact hin
    · cases h

theorem State.ownedSlots_le_of_setAgentRefusal {s : State} {a : AgentNo} {c : ArbiterClass} {limit : Nat}
    (h : s.setAgentRefusal a = none) (hf : portFlagged s.params = true) (hp : portParams s.params = some (c, limit)) :
    s.ownedSlots a ≤ limit := by
  unfold State.setAgentRefusal at h
  split_ifs at h with h1 h2 h3 h4
  simpa [hf, hp] using h4

/-- Writing an agent's record twice is writing it once. -/
theorem State.setAgent_setAgent (s : State) (a : AgentNo) (r r' : AgentRecord) :
    (s.setAgent a r).setAgent a r' = s.setAgent a r' := by
  simp [State.setAgent]

theorem changes_setAgent_withPortPart {s : State} {a : AgentNo} (h : s.setAgentRefusal a = none) :
    Changes s (s.setAgent a ((s.agent a).withPortPart s.params)) := by
  refine changes_setAgent ?_
  unfold AgentRecord.withPortPart
  split
  · next hf =>
    split
    · next c limit hp => exact .port _ c limit (limit_le_of_portParams hp) (State.ownedSlots_le_of_setAgentRefusal h hf hp)
    · exact .stays _
  · exact .stays _

theorem AgentMove.of_withConductPart (s : State) (a : AgentNo) (r : AgentRecord) (ps : Vector Word 6) :
    AgentMove s a r (r.withConductPart ps) := by
  unfold AgentRecord.withConductPart
  split
  · split
    · next o b t hp =>
      obtain ⟨ho, hb, ht⟩ := inRange_of_conductParams hp
      exact .settings r o b t ho hb ht
    · exact .stays _
  · exact .stays _

theorem changes_applySetAgent {s : State} {a : AgentNo} (h : s.setAgentRefusal a = none) : Changes s (s.applySetAgent a) := by
  have hrecord : Changes s (s.setAgent a (((s.agent a).withPortPart s.params).withConductPart s.params)) := by
    rw [← s.setAgent_setAgent a ((s.agent a).withPortPart s.params)]
    refine (changes_setAgent_withPortPart h).trans (changes_setAgent ?_)
    rw [State.agent_setAgent, if_pos rfl]
    exact .of_withConductPart _ a _ _
  have hconduct := changes_updateConduct hrecord
  unfold State.applySetAgent
  dsimp only
  split
  · exact hconduct.trans (changes_grantPass _)
  · exact hconduct.trans (changes_passIfReadied _ _)

theorem changes_setAgentCommand (s : State) : Changes s s.setAgentCommand := by
  unfold State.setAgentCommand
  split
  · exact changes_conclude _ _
  · split
    · exact changes_conclude _ _
    · next h => exact (changes_applySetAgent h).trans (changes_finish _ _ _ _)

theorem changes_clearAgentCommand (s : State) : Changes s s.clearAgentCommand := by
  unfold State.clearAgentCommand
  split
  · exact changes_conclude _ _
  · exact (changes_updateConduct (changes_setAgent (.cleared _))).trans (changes_finish _ _ _ _)

/-! ### Host commands on one record (R166 to R176) -/

theorem changes_readRecord (s : State) (image : Option (Vector Word 12)) (hr : s.resetHeld = false) :
    Changes s (s.readRecord image) := by
  unfold State.readRecord
  split
  · exact changes_conclude _ _
  · split
    · exact changes_conclude _ _
    · exact changes_of_outside { snapshot := fun h => absurd (hr.symm.trans h) Bool.false_ne_true }

theorem changes_dropSnapshot (s : State) : Changes s s.dropSnapshot := by
  unfold State.dropSnapshot
  split
  · exact changes_of_outside { snapshot := fun _ _ => rfl }
  · exact changes_conclude _ _

theorem changes_setFence (s : State) (r : GranuleRange) (hr : s.resetHeld = false) : Changes s (s.setFence r) := by
  unfold State.setFence
  split_ifs with hw hl
  · exact changes_conclude _ _
  · exact changes_conclude _ _
  · split
    · exact changes_conclude _ _
    · next k hk =>
      have hrange : s.WellFormedRange r := by simpa [GranuleRange.wellFormed] using hw
      exact .tail (.single (.fenced s r k hr hrange (Bool.eq_false_of_not_eq_true hl) ((s.lowestFree_eq_some_iff k).1 hk)))
        (.outside {})

theorem changes_clearFence (s : State) (h : Handle) : Changes s (s.clearFence h) := by
  unfold State.clearFence
  split
  · split
    · exact ((changes_freeSlot s _).trans (changes_grantPass _)).trans (changes_conclude _ _)
    · exact changes_conclude _ _
  · exact changes_conclude _ _

theorem changes_revokePair (s : State) (h : Handle) : Changes s (s.revokePair h) := by
  unfold State.revokePair
  split
  · cases hst : (s.slot h.slot).state with
    | held l r => exact ((changes_revokeLease_of_held hst).trans (changes_grantPass _)).trans (changes_finish _ _ _ _)
    | lapsed l r => exact ((changes_revokeLease_of_lapsed hst).trans (changes_grantPass _)).trans (changes_finish _ _ _ _)
    | reserved l c =>
      exact (((changes_freeSlot s _).trans (changes_cancelGrant _ c)).trans (changes_grantPass _)).trans (changes_finish _ _ _ _)
    | _ => exact changes_conclude _ _
  · exact changes_conclude _ _

theorem changes_cancelTicket (s : State) (t : Ticket) : Changes s (s.cancelTicket t) := by
  unfold State.cancelTicket
  split
  · exact changes_conclude _ _
  · split
    · exact ((changes_readyCell s _ _).trans (changes_grantPass _)).trans (changes_finish _ _ _ _)
    · exact changes_conclude _ _
    · exact changes_conclude _ _
    · exact changes_conclude _ _

/-! ### Sweeps (R151 to R158) -/

theorem changes_beginSweep {s : State} {k : SweepKind} (hr : s.resetHeld = false) (hs : s.sweep.status ≠ .inProgress)
    (hk : s.sweepParams = some k) : Changes s (s.beginSweep k) :=
  (Relation.ReflTransGen.trans (.single (.sweep s _ (.begun k hr hs hk))) (changes_readyWhere _ _ _)).trans
    (changes_passIfReadied _ _)

theorem changes_startSweep (s : State) (hr : s.resetHeld = false) : Changes s s.startSweep := by
  unfold State.startSweep
  split
  · exact changes_conclude _ _
  · next hs =>
    split
    · exact changes_conclude _ _
    · next k hk => exact (changes_beginSweep hr hs hk).trans (changes_finish _ _ _ _)

theorem changes_endSweep {s : State} (hs : s.sweep.status = .inProgress) (st : SweepStatus) : Changes s (s.endSweep st) :=
  Relation.ReflTransGen.trans (.single (.sweep s _ (.ended st hs))) (changes_raise _ _ _)

theorem changes_abortSweep (s : State) : Changes s s.abortSweep := by
  unfold State.abortSweep
  split
  · next hs => exact ((changes_endSweep hs _).trans (changes_grantPass _)).trans (changes_conclude _ _)
  · exact changes_conclude _ _

/-- The action of a visit makes at most one lease REVOKED and leaves the sweep record alone (R155). -/
theorem changes_visitAction (s : State) (k : SlotNo) :
    Changes s (s.visitAction k).1 ∧ (s.visitAction k).1.sweep = s.sweep ∧ (s.visitAction k).2.2 ≤ 1 := by
  have hstays : Changes s s ∧ s.sweep = s.sweep ∧ 0 ≤ 1 := ⟨.refl, rfl, Nat.zero_le _⟩
  unfold State.visitAction
  cases hst : (s.slot k).state with
  | held l r =>
    dsimp only
    split
    · exact ⟨changes_revokeLease_of_held hst, rfl, Nat.le_refl _⟩
    · exact hstays
  | lapsed l r =>
    dsimp only
    split
    · exact ⟨changes_revokeLease_of_lapsed hst, rfl, Nat.le_refl _⟩
    · exact hstays
  | reserved l c =>
    dsimp only
    split
    · refine ⟨(changes_freeSlot s k).trans (changes_cancelGrant _ c), ?_, Nat.zero_le _⟩
      unfold State.cancelGrant
      split <;> rfl
    · exact hstays
  | _ => exact hstays

theorem changes_visitSlot {s : State} (hs : s.sweep.status = .inProgress) (hn : s.sweep.nextSlot < 128) :
    Changes s (s.visitSlot ⟨s.sweep.nextSlot, hn⟩) := by
  obtain ⟨hact, hsweep, hrevoked⟩ := changes_visitAction s ⟨s.sweep.nextSlot, hn⟩
  unfold State.visitSlot
  generalize s.visitAction ⟨s.sweep.nextSlot, hn⟩ = r at hact hsweep hrevoked
  dsimp only
  rw [← hsweep] at hs hn
  have hadvance := hact.tail (.sweep r.1 _ (.advanced r.2.2 hs hn hrevoked))
  rw [hsweep] at hadvance
  rw [hsweep] at hs ⊢
  split_ifs
  · exact (hadvance.trans (changes_endSweep (by exact hs) _)).trans (changes_grantPass _)
  · exact hadvance.trans (changes_grantPass _)
  · exact hadvance

theorem execVisit_changes (s : State) : ChangesTo s (execVisit s) := by
  refine Changes.next ?_
  split_ifs with hs hn
  · exact changes_visitSlot hs hn
  · exact .refl
  · exact .refl

/-! ### Profiles, LOCK and CLEAR_ALL (R178 to R182) -/

theorem State.profileFieldsInRange_of_loadRefusal {s : State} (h : s.loadRefusal = none) :
    profileFieldsInRange s.largestGranule s.staging = true := by
  unfold State.loadRefusal at h
  split_ifs at h with h1 h2 h3 h4 h5
  simpa using h5

theorem State.mapConflict_eq_false_of_loadRefusal {s : State} (h : s.loadRefusal = none) :
    s.mapConflict (readProfile s.staging).map = false := by
  unfold State.loadRefusal at h
  split_ifs at h with h1 h2 h3 h4 h5 h6 h7
  simpa using h7

/-- What test 5 of LOAD_PROFILE asks, taken apart (R178). -/
theorem profileFieldsInRange_iff (largest : Word) (st : Vector Half 48) :
    profileFieldsInRange largest st = true ↔
      (∀ e < 8, partitionInRange largest st e = true) ∧ settingsInRange (profileWord st 41) = true ∧
      settingsInRange (profileWord st 42) = true ∧ settingsInRange (profileWord st 43) = true ∧
      halfField (profileWord st 44) 3 13 = 0 ∧ unitsInRange (profileWord st 45) = true ∧
      unitsInRange (profileWord st 46) = true ∧ someValidIntersect (readProfile st).map.toList = false := by
  simp [profileFieldsInRange, and_assoc]

theorem readSettings_inRange {h : Half} (hin : settingsInRange h = true) : (readSettings h).InRange := by
  simp only [settingsInRange, Bool.and_eq_true, decide_eq_true_eq] at hin
  obtain ⟨⟨⟨⟨hthreshold, hmin⟩, hmax⟩, _⟩, _⟩ := hin
  exact ⟨hthreshold, hmin, hmax⟩

theorem changes_writeProfile {s : State} (h : s.loadRefusal = none) : Changes s (s.writeProfile (readProfile s.staging)) := by
  obtain ⟨_, ho, ha, ht, _⟩ := (profileFieldsInRange_iff _ _).1 (State.profileFieldsInRange_of_loadRefusal h)
  refine .tail (.tail (.single (.profile s h)) (.agents _ (s.agents.map fun r => r.withSettings
    (readProfile s.staging).overstay (readProfile s.staging).abandon (readProfile s.staging).trespass) fun a => ?_))
    (.outside {})
  simp only [Fin.getElem_fin, Vector.getElem_map]
  exact .settings _ _ _ _ (readSettings_inRange ho) (readSettings_inRange ha) (readSettings_inRange ht)

theorem changes_deriveAll (s before : State) : Changes s (s.deriveAll before) := by
  unfold State.deriveAll
  generalize List.finRange 32 = as
  induction as generalizing s with
  | nil => exact .refl
  | cons a as ih => exact (changes_standingChanged s a _).trans (ih _)

theorem changes_loadProfile (s : State) : Changes s s.loadProfile := by
  unfold State.loadProfile
  split
  · exact changes_conclude _ _
  · next h =>
    exact (((changes_writeProfile h).trans (changes_deriveAll _ s)).trans (changes_passIfReadied _ _)).trans
      (changes_finish _ _ _ _)

theorem changes_lock (s : State) :
    Changes s (if s.lock then s.conclude .ignored else { s with lock := true }.conclude .done) := by
  split <;> exact changes_of_outside {}

theorem changes_interruptedByClear (s : State) : Changes s { s with sweep := s.sweep.interruptedByClear } := by
  unfold SweepRecord.interruptedByClear
  split
  · next hs => exact .single (.sweep s _ (.ended .interrupted hs))
  · exact .refl

theorem changes_clearAgents (s : State) : Changes s { s with agents := s.agents.map AgentRecord.cleared } := by
  refine .single (.agents s _ fun a => ?_)
  simp only [Fin.getElem_fin, Vector.getElem_map]
  exact .cleared _

theorem changes_cleared (s : State) : Changes s s.cleared := by
  have hslots := changes_freeSlotsWhere s fun _ => true
  have hcells := hslots.trans (changes_emptyCellsWhere _ fun _ => true)
  have hagents := (hcells.trans (changes_interruptedByClear _)).trans (changes_clearAgents _)
  exact hagents.trans (changes_of_outside { snapshot := fun _ _ => rfl })

/-! ### Every command (the rows of spec/opcode_table.json) -/

/-- A host command or a write that is not taken while RESET is held. -/
theorem changesTo_unlessReset {s : State} {f : State → State} (h : s.resetHeld = false → Changes s (f s)) :
    ChangesTo s (.next (s.unlessReset f)) := Changes.next (changes_unlessReset h)

theorem writeCommandWord_changes (code : BitVec 8) (s : State) : ChangesTo s (writeCommandWord code s) := by
  unfold writeCommandWord
  split
  · exact changesTo_unlessReset fun _ => changes_of_outside {}
  · exact changesTo_unlessReset fun _ => changes_of_outside {}
  · exact changesTo_unlessReset fun _ => changes_setAgentCommand s
  · exact changesTo_unlessReset fun _ => changes_clearAgentCommand s
  · exact changesTo_unlessReset fun hr => changes_startSweep s hr
  · exact changesTo_unlessReset fun _ => changes_abortSweep s
  · exact changesTo_unlessReset fun _ => changes_loadProfile s
  · exact changesTo_unlessReset fun _ => changes_lock s
  · exact changesTo_unlessReset fun _ => ((changes_cleared s).trans (changes_grantPass _)).trans (changes_conclude _ _)
  · exact changesTo_unlessReset fun hr => changes_readRecord s _ hr
  · exact changesTo_unlessReset fun hr => changes_readRecord s _ hr
  · exact changesTo_unlessReset fun hr => changes_readRecord s _ hr
  · exact changesTo_unlessReset fun hr => changes_readRecord s _ hr
  · exact changesTo_unlessReset fun _ => changes_dropSnapshot s
  · exact changesTo_unlessReset fun hr => changes_setFence s _ hr
  · exact changesTo_unlessReset fun _ => changes_clearFence s _
  · exact changesTo_unlessReset fun _ => changes_revokePair s _
  · exact changesTo_unlessReset fun _ => changes_cancelTicket s _
  · exact changesTo_unlessReset fun _ => changes_conclude s _

/-- A host command is the write of its code to the command word (R163). -/
theorem exec_eq_writeCommandWord {i : Instr} {n : Nat} (h : i.commandCode = some n) (s : State) :
    exec i s = writeCommandWord (BitVec.ofNat 8 n) s := by
  cases i <;> cases h <;> rfl

theorem execClosingRead_changes (s : State) : ChangesTo s (execClosingRead s) :=
  Changes.next (changes_of_outside { snapshot := fun hr hn => (if_pos hr).trans hn })

theorem execGlobalEnableWrite_changes (on : Bool) (s : State) : ChangesTo s (execGlobalEnableWrite on s) :=
  changesTo_unlessReset fun hr => changes_of_outside { globalEnable := fun h => absurd (hr.symm.trans h) Bool.false_ne_true }

theorem changes_storeWord (s : State) (n : Nat) (data : Word) : Changes s (s.storeWord n data) := by
  unfold State.storeWord
  split_ifs <;> exact changes_of_outside {}

theorem execRegisterWrite_changes (addr : BitVec 6) (data : Word) (s : State) : ChangesTo s (execRegisterWrite addr data s) := by
  unfold execRegisterWrite
  split
  · exact writeCommandWord_changes _ s
  · exact changesTo_unlessReset fun _ => changes_of_outside {}
  · exact changesTo_unlessReset fun hr =>
      changes_of_outside { globalEnable := fun h => absurd (hr.symm.trans h) Bool.false_ne_true }
  · exact changesTo_unlessReset fun _ => changes_of_outside {}
  · exact changesTo_unlessReset fun _ => changes_storeWord s _ data

/-! ### Every step -/

/-- The part from the moment RESET is asserted, before the lookup presented is answered (R183; logs 11, 12, 26). -/
def State.resetAsserted (s : State) : State :=
  { s.poweredOn s.granule64 s.agentsCode s.attach with
    resetHeld := true, ckAnswer := s.ckAnswer, presented := s.presented, heldLookups := s.heldLookups }

theorem execResetHeld_eq (s : State) : execResetHeld s = .next s.resetAsserted.takePresented := rfl

/-- What one step can do: a run of changes, or one of the events that touch the check port or begin the part anew. -/
inductive StepShape (s : State) : State → Prop where
  | changes {t : State} (h : Changes s t) : StepShape s t
  | powerOn (p : List Instr) (granule64 : Bool) (agentsCode : BitVec 2) (attach : Word) :
      StepShape s (State.poweredOn { s with pending := p } granule64 agentsCode attach)
  | resetHeld (p : List Instr) : StepShape s (State.resetAsserted { s with pending := p }).takePresented
  | lookup (p : List Instr) (q : List Lookup) : StepShape s (State.presentNext { s with pending := p, heldLookups := q })
  | trespass (p : List Instr) (a : AgentNo) (rest : List AgentNo) (u : State) (hc : s.charges = a :: rest)
      (hu : Changes { s with pending := p, charges := rest } u) : StepShape s u.takePresented
  | idle {t : State} (h : Changes s.pollCheckPort t) : StepShape s t

theorem StepShape.of_changesTo {s t : State} {p : List Instr} {o : Host.Outcome State Fault Refusal}
    (h : ChangesTo { s with pending := p } o) (ht : o = .next t) : StepShape s t := by
  obtain ⟨u, hu, hc⟩ := h
  rw [hu] at ht
  cases ht
  exact .changes (.trans (changes_of_outside {}) hc)

theorem changes_applyTrespass (s : State) (a : AgentNo) (rest : List AgentNo) :
    Changes { s with charges := rest } (s.applyTrespass a rest) :=
  (changes_charge _ _ _).trans (changes_passIfReadied _ _)

theorem exec_shape {s t : State} {p : List Instr} {i : Instr} (h : exec i { s with pending := p } = .next t) : StepShape s t := by
  have command {n : Nat} (hi : i.commandCode = some n) : StepShape s t :=
    .of_changesTo (writeCommandWord_changes _ _) ((exec_eq_writeCommandWord hi _).symm.trans h)
  cases i with
  | acquire w1 w2 w3 => exact .of_changesTo (execAcquire_changes w1 w2 w3 _) h
  | renew w1 w2 w3 => exact .of_changesTo (execRenew_changes w1 w2 w3 _) h
  | release w1 w2 w3 => exact .of_changesTo (execRelease_changes w1 w2 w3 _) h
  | poll w1 w2 w3 => exact .of_changesTo (execPoll_changes w1 w2 w3 _) h
  | withdraw w1 w2 w3 => exact .of_changesTo (execWithdraw_changes w1 w2 w3 _) h
  | unknownRequest w1 w2 w3 => exact .of_changesTo (execUnknownRequest_changes w1 w2 w3 _) h
  | arbiterChoice req => exact .of_changesTo (execArbiterChoice_changes req _) h
  | tenureEnd => exact .of_changesTo (execTenureEnd_changes _) h
  | tenureLimitExpiry => exact .of_changesTo (execTenureLimitExpiry_changes _) h
  | attach a => exact .of_changesTo (execAttach_changes a _) h
  | detach a => exact .of_changesTo (execDetach_changes a _) h
  | powerOn granule64 agentsCode attach =>
    cases h
    exact .powerOn p granule64 agentsCode attach
  | termExpiry k => exact .of_changesTo (execTermExpiry_changes k _) h
  | holdExpiry k => exact .of_changesTo (execHoldExpiry_changes k _) h
  | waitLimitExpiry c => exact .of_changesTo (execWaitLimitExpiry_changes c _) h
  | collectionExpiry c => exact .of_changesTo (execCollectionExpiry_changes c _) h
  | lookup a addr kind =>
    cases h
    exact .lookup p _
  | trespassCharge =>
    cases hc : s.charges with
    | nil =>
      simp only [exec, execTrespassCharge, hc] at h
      cases h
      exact .changes (changes_of_outside { charges := hc.symm })
    | cons a rest =>
      simp only [exec, execTrespassCharge, hc] at h
      cases h
      exact .trespass p a rest _ hc (changes_applyTrespass { s with pending := p } a rest)
  | visit => exact .of_changesTo (execVisit_changes _) h
  | unknownCommand code => exact .of_changesTo (writeCommandWord_changes code _) h
  | closingRead => exact .of_changesTo (execClosingRead_changes _) h
  | enableWrite data => exact .of_changesTo (changesTo_unlessReset fun _ => changes_of_outside {}) h
  | globalEnableWrite on => exact .of_changesTo (execGlobalEnableWrite_changes on _) h
  | elevateWrite field => exact .of_changesTo (changesTo_unlessReset fun _ => changes_of_outside {}) h
  | acknowledge data => exact .of_changesTo (changesTo_unlessReset fun _ => changes_of_outside {}) h
  | registerWrite addr data => exact .of_changesTo (execRegisterWrite_changes addr data _) h
  | firstRequestWord w0 => exact .of_changesTo (execFirstRequestWord_changes w0 _) h
  | resetHeld =>
    cases (execResetHeld_eq _).symm.trans h
    exact .resetHeld p
  | _ => exact command rfl

theorem step_shape {s t : State} (h : step s = .next t) : StepShape s t := by
  unfold step at h
  split at h
  · cases h
    exact .idle (changes_unlessReset fun _ => changes_passMicrosecond _)
  · exact exec_shape h

/-! ### Invariants of the tables -/

theorem State.takePresented_sameTables (s : State) : SameTables s s.takePresented := by
  unfold State.takePresented
  split
  · exact {}
  · split_ifs <;> exact {}

theorem State.presentNext_sameTables (s : State) : SameTables s s.presentNext := by
  unfold State.presentNext
  split
  · next l rest _ _ =>
    obtain ⟨h1, h2, h3, h4, h5, h6, h7, h8, h9⟩ :=
      State.takePresented_sameTables { s with presented := some l, heldLookups := rest, ckAnswer := none }
    exact ⟨h1, h2, h3, h4, h5, h6, h7, h8, h9⟩
  · exact {}

theorem State.pollCheckPort_sameTables (s : State) : SameTables s s.pollCheckPort := by
  unfold State.pollCheckPort
  split
  · exact {}
  · exact s.presentNext_sameTables

/-- A law of the tables, of the map and of the part-wide settings is kept by every step when it holds at power-on and every change keeps
it. -/
theorem step_keeps_tables {P : State → Prop} (hsame : ∀ s t, SameTables s t → P s → P t)
    (hchange : ∀ s t, Change s t → P s → P t)
    (hpower : ∀ s granule64 agentsCode attach, P (State.poweredOn s granule64 agentsCode attach))
    {s t : State} (h : step s = .next t) (hs : P s) : P t := by
  cases step_shape h with
  | changes h => exact h.keeps hchange hs
  | powerOn p granule64 agentsCode attach => exact hpower _ _ _ _
  | resetHeld p => exact hsame _ _ (State.takePresented_sameTables _) (hsame _ _ {} (hpower s s.granule64 s.agentsCode s.attach))
  | lookup p q => exact hsame _ _ (State.presentNext_sameTables _) (hsame _ _ {} hs)
  | trespass p a rest u _ hu => exact hsame _ _ u.takePresented_sameTables (hu.keeps hchange (hsame _ _ {} hs))
  | idle h => exact h.keeps hchange (hsame _ _ s.pollCheckPort_sameTables hs)

end Sys2Proof.Machine
end

section
/-! SUPPORT. What a change keeps of a slot and of a cell, and the two laws that come of it at once: range-holding leases do not conflict
(R15), and claims are admissible under the map (R8, R10). -/

namespace Sys2Proof.Machine

/-! ### What a change keeps of a slot and of a cell -/

/-- The range-holding lease of a slot after a move is the one before, with the same owner and range. -/
theorem SlotMove.holding {s : State} {x y : SlotState} (h : SlotMove s x y) {l : AgentLease} (hl : y.holding? = some l) :
    ∃ l', x.holding? = some l' ∧ l'.owner = l.owner ∧ l'.range = l.range := by
  cases h with
  | stays => exact ⟨l, hl, rfl, rfl⟩
  | freed => cases hl
  | renewed => cases hl; exact ⟨_, rfl, rfl, rfl⟩
  | lapsed => cases hl; exact ⟨_, rfl, rfl, rfl⟩
  | heldRevoked => cases hl
  | lapsedRevoked => cases hl
  | collected => cases hl; exact ⟨_, rfl, rfl, rfl⟩
  | elapsed d => cases x <;> cases hl <;> exact ⟨_, rfl, rfl, rfl⟩

theorem SlotMove.claim {s : State} {x y : SlotState} (h : SlotMove s x y) {c : Claim} (hc : y.claim? = some c) :
    x.claim? = some c := by
  cases h with
  | elapsed d => cases x <;> exact hc
  | freed => cases hc
  | heldRevoked => cases hc
  | lapsedRevoked => cases hc
  | _ => exact hc

theorem SlotMove.range {s : State} {x y : SlotState} (h : SlotMove s x y) {r : GranuleRange} (hr : y.range? = some r) :
    x.range? = some r := by
  cases h with
  | elapsed d => cases x <;> exact hr
  | freed => cases hr
  | _ => exact hr

theorem SlotMove.free {s : State} {x y : SlotState} (h : SlotMove s x y) (hx : x = .free) : y = .free := by
  subst hx
  cases h <;> rfl

theorem CellMove.waiting {s : State} {x y : CellState} (h : CellMove s x y) {e : WaitEntry} (he : y.waiting? = some e) :
    x.waiting? = some e := by
  cases h with
  | stays => exact he
  | readied => cases he
  | grantCancelled => cases he
  | elapsed d => cases x <;> exact he

theorem CellMove.entry {s : State} {x y : CellState} (h : CellMove s x y) : y.entry? = x.entry? := by
  cases h with
  | elapsed d => cases x <;> rfl
  | _ => rfl

theorem CellState.eq_empty_iff_entry (x : CellState) : x = .empty ↔ x.entry? = none := by
  cases x <;> simp [CellState.entry?]

/-- A move neither fills nor empties a cell. -/
theorem CellMove.empty_iff {s : State} {x y : CellState} (h : CellMove s x y) : y = .empty ↔ x = .empty := by
  rw [CellState.eq_empty_iff_entry, CellState.eq_empty_iff_entry, h.entry]

/-- The entry of a cell after a change of the cells is the one before. -/
theorem waiting_of_cells_change {s : State} {v : Vector WaitCell 64} {gone : CellNo → Bool}
    (hgone : ∀ c : CellNo, gone c = true → v[c].state = .empty)
    (hkept : ∀ c : CellNo, gone c = false → CellMove s (s.cell c).state v[c].state) {c : CellNo} {e : WaitEntry}
    (he : v[c].state.waiting? = some e) : (s.cell c).state.waiting? = some e := by
  cases hc : gone c with
  | true => rw [hgone c hc] at he; cases he
  | false => exact (hkept c hc).waiting he

theorem entry_of_cells_change {s : State} {v : Vector WaitCell 64} {gone : CellNo → Bool}
    (hgone : ∀ c : CellNo, gone c = true → v[c].state = .empty)
    (hkept : ∀ c : CellNo, gone c = false → CellMove s (s.cell c).state v[c].state) {c : CellNo} {e : WaitEntry}
    (he : v[c].state.entry? = some e) : (s.cell c).state.entry? = some e := by
  cases hc : gone c with
  | true => rw [hgone c hc] at he; cases he
  | false => rwa [← (hkept c hc).entry]

theorem State.slot_sameTables {s t : State} (h : SameTables s t) (k : SlotNo) : t.slot k = s.slot k := State.slot_congr h.slots k

theorem State.cell_sameTables {s t : State} (h : SameTables s t) (c : CellNo) : t.cell c = s.cell c := State.cell_congr h.cells c

theorem State.agent_sameTables {s t : State} (h : SameTables s t) (a : AgentNo) : t.agent a = s.agent a :=
  State.agent_congr h.agents a

/-! ### What a grant finds -/

theorem State.noHolderAgainst_of_mayGrant {s : State} {c : CellNo} {e : WaitEntry} (h : s.mayGrant c e = true) :
    s.NoHolderAgainst e.claim := by
  simp only [State.mayGrant, Bool.and_eq_true, Bool.not_eq_true'] at h
  obtain ⟨⟨⟨hheld, _⟩, _⟩, _⟩ := h
  exact (s.heldAgainst_eq_false_iff _).1 hheld

/-- The immediate grant finds no conflict with a holder and the lowest-numbered FREE slot (R76). -/
theorem State.of_immediate_grant {s : State} {q : Claim} {k : SlotNo} (h : s.immediate q = .grant k) :
    s.NoHolderAgainst q ∧ s.LowestFreeIs k := by
  unfold State.immediate at h
  split_ifs at h with hconflict
  split at h
  · next k' hk =>
    cases h
    rw [Bool.or_eq_true, not_or, Bool.not_eq_true] at hconflict
    exact ⟨(s.heldAgainst_eq_false_iff q).1 hconflict.1, (s.lowestFree_eq_some_iff k).1 hk⟩
  · cases h

theorem State.noHolderAgainst_of_leaseOn {s : State} {r : GranuleRange} (h : s.leaseOn r = false) :
    s.NoHolderAgainst ⟨.management, .fence, r⟩ := by
  intro k c hc
  have hk : ∀ l, (s.slot k).state.holding? = some l → l.range.intersects r = false := by
    intro l hl
    simp only [State.leaseOn, List.any_eq_false, Vector.mem_toList_iff, Option.any_eq_true, not_exists, not_and,
      Bool.not_eq_true] at h
    exact h (s.slot k) (Vector.getElem_mem _) l hl
  cases hst : (s.slot k).state <;> rw [hst] at hc hk <;> cases hc
  · simp [Claim.conflicts, AgentLease.claim, hk _ rfl]
  · simp [Claim.conflicts, AgentLease.claim, hk _ rfl]
  · simp [Claim.conflicts, AgentLease.claim, hk _ rfl]
  · simp [Claim.conflicts]

/-! ### No two range-holding leases conflict (R15) -/

/-- A slot that takes a claim which no holder conflicts with keeps the holders apart: a claim never conflicts with itself. -/
theorem State.NoTwoHoldersConflict.setSlotState {s : State} (hs : s.NoTwoHoldersConflict) {q : Claim} (hq : s.NoHolderAgainst q)
    {k : SlotNo} {x : SlotState} (hx : x.claim? = some q) : (s.setSlotState k x).NoTwoHoldersConflict := by
  intro i j c d hc hd
  rw [State.slot_setSlotState] at hc hd
  split at hc <;> split at hd
  · cases hx.symm.trans hc
    cases hx.symm.trans hd
    simp [Claim.conflicts]
  · cases hx.symm.trans hc
    rw [Claim.conflicts_comm]
    exact hq j d hd
  · cases hx.symm.trans hd
    exact hq i c hc
  · exact hs i j c d hc hd

theorem State.NoTwoHoldersConflict.congr {s t : State} (h : SameTables s t) (hs : s.NoTwoHoldersConflict) :
    t.NoTwoHoldersConflict := by
  simpa only [State.NoTwoHoldersConflict, State.slot_sameTables h] using hs

theorem State.NoTwoHoldersConflict.change {s t : State} (h : Change s t) (hs : s.NoTwoHoldersConflict) :
    t.NoTwoHoldersConflict := by
  cases h with
  | outside h => exact hs.congr h.toSameTables
  | slots v h => exact fun i j c d hc hd => hs i j c d ((h i).claim hc) ((h j).claim hd)
  | acquired a w0 q m k hq hk => exact hs.setSlotState (State.of_immediate_grant hk).1 rfl
  | fenced r k hr hw hl hk => exact hs.setSlotState (State.noHolderAgainst_of_leaseOn hl) rfl
  | granted c e r w k hc hk hm => exact hs.setSlotState (State.noHolderAgainst_of_mayGrant hm) rfl
  | _ => exact hs

/-! ### Power-on (R183) -/

@[simp] theorem State.slot_poweredOn (s : State) (g : Bool) (n : BitVec 2) (w : Word) (k : SlotNo) :
    (s.poweredOn g n w).slot k = ⟨0, .free⟩ := by
  simp [State.slot, State.poweredOn, State.reset, powerOnSlot]

@[simp] theorem State.cell_poweredOn (s : State) (g : Bool) (n : BitVec 2) (w : Word) (c : CellNo) :
    (s.poweredOn g n w).cell c = ⟨0, .empty⟩ := by
  simp [State.cell, State.poweredOn, State.reset, powerOnCell]

@[simp] theorem State.agent_poweredOn (s : State) (g : Bool) (n : BitVec 2) (w : Word) (a : AgentNo) :
    (s.poweredOn g n w).agent a = powerOnAgent := by
  simp [State.agent, State.poweredOn, State.reset]

theorem powerOnMap_getElem (g : Bool) (e : Fin 8) :
    (powerOnMap g)[e] = if e = 0 then powerOnEntry0 g else powerOnInvalidEntry := by
  simp only [powerOnMap, Fin.getElem_fin, Vector.getElem_set, Vector.getElem_replicate, eq_comm (a := 0), Fin.val_eq_zero_iff]

@[simp] theorem State.map_poweredOn (s : State) (g : Bool) (n : BitVec 2) (w : Word) : (s.poweredOn g n w).map = powerOnMap g := rfl

theorem State.noTwoHoldersConflict_poweredOn (s : State) (g : Bool) (n : BitVec 2) (w : Word) :
    (s.poweredOn g n w).NoTwoHoldersConflict := by
  intro j k c d hc
  simp [SlotState.claim?, SlotState.holding?] at hc

/-- Settles O51: a change that gives a slot a new claim has tested it against every holder (R34, R48, R99), and no other change makes
one. -/
theorem stepKeepsHoldersApart : Obligations.StepKeepsHoldersApart := fun _ _ hs h =>
  step_keeps_tables (fun _ _ => .congr) (fun _ _ => .change) State.noTwoHoldersConflict_poweredOn h hs

/-! ### Claims admissible under the map (R8, R10) -/

theorem State.ClaimsAdmissible.congr {s t : State} (h : SameTables s t) (hs : s.ClaimsAdmissible) : t.ClaimsAdmissible := by
  simpa only [State.ClaimsAdmissible, State.slot_sameTables h, State.cell_sameTables h, h.map] using hs

theorem State.ClaimsAdmissible.setSlotState {s : State} (hs : s.ClaimsAdmissible) {k : SlotNo} {x : SlotState}
    (hx : ∀ l, x.holding? = some l → admissible s.map l.owner l.range = true) : (s.setSlotState k x).ClaimsAdmissible := by
  refine ⟨fun j l hl => ?_, hs.2⟩
  rw [State.slot_setSlotState] at hl
  split at hl
  · exact hx l hl
  · exact hs.1 j l hl

theorem State.ClaimsAdmissible.setCellState {s : State} (hs : s.ClaimsAdmissible) {c : CellNo} {x : CellState}
    (hx : ∀ e, x.waiting? = some e → admissible s.map e.agent e.range = true) : (s.setCellState c x).ClaimsAdmissible := by
  refine ⟨hs.1, fun d e he => ?_⟩
  rw [State.cell_setCellState] at he
  split at he
  · exact hx e he
  · exact hs.2 d e he

/-- No conflict with the map: every range-holding lease and every WAITING entry is admissible under it (R178, test 7). -/
theorem State.mapConflict_eq_false_iff (s : State) (map : Vector Partition 8) :
    s.mapConflict map = false ↔
      (∀ k l, (s.slot k).state.holding? = some l → admissible map l.owner l.range = true) ∧
      ∀ c e, (s.cell c).state.waiting? = some e → admissible map e.agent e.range = true := by
  simp only [State.mapConflict, Bool.or_eq_false_iff, List.any_eq_false, Vector.mem_toList_iff, Vector.mem_iff_getElem,
    Option.any_eq_true, not_exists, not_and, Bool.not_eq_true, Bool.not_eq_false', State.slot, State.cell, Fin.getElem_fin]
  constructor
  · rintro ⟨hslots, hcells⟩
    exact ⟨fun k l hl => hslots _ ⟨k.val, k.isLt, rfl⟩ l hl, fun c e he => hcells _ ⟨c.val, c.isLt, rfl⟩ e he⟩
  · rintro ⟨hslots, hcells⟩
    refine ⟨?_, ?_⟩
    · rintro _ ⟨i, hi, rfl⟩ l hl
      exact hslots ⟨i, hi⟩ l hl
    · rintro _ ⟨i, hi, rfl⟩ e he
      exact hcells ⟨i, hi⟩ e he

theorem State.ClaimsAdmissible.change {s t : State} (h : Change s t) (hs : s.ClaimsAdmissible) : t.ClaimsAdmissible := by
  obtain ⟨hslots, hcells⟩ := hs
  cases h with
  | outside h => exact State.ClaimsAdmissible.congr h.toSameTables ⟨hslots, hcells⟩
  | slots v h =>
    refine ⟨fun k l hl => ?_, hcells⟩
    obtain ⟨l', hl', howner, hrange⟩ := (h k).holding hl
    rw [← howner, ← hrange]
    exact hslots k l' hl'
  | cells v gone hgone hkept => exact ⟨hslots, fun c e he => hcells c e (waiting_of_cells_change hgone hkept he)⟩
  | profile h => exact (s.mapConflict_eq_false_iff _).1 (State.mapConflict_eq_false_of_loadRefusal h)
  | acquired a w0 q m k hq hk =>
    obtain ⟨_, _, _, hadm, _⟩ := hq
    exact State.ClaimsAdmissible.setSlotState ⟨hslots, hcells⟩ fun l hl => by cases hl; exact hadm
  | deferred a w0 q m r c hq hr ht hc =>
    obtain ⟨_, _, _, hadm, _⟩ := hq
    exact State.ClaimsAdmissible.setCellState ⟨hslots, hcells⟩ fun e he => by cases he; exact hadm
  | fenced r k hr hw hl hk => exact State.ClaimsAdmissible.setSlotState ⟨hslots, hcells⟩ fun l hl => nomatch hl
  | granted c e r w k hc hk hm =>
    have he : admissible s.map e.agent e.range = true := hcells c e (by rw [hc]; rfl)
    exact .setCellState (.setSlotState ⟨hslots, hcells⟩ fun l hl => by cases hl; exact he) fun e he => nomatch he
  | _ => exact ⟨hslots, hcells⟩

theorem State.claimsAdmissible_poweredOn (s : State) (g : Bool) (n : BitVec 2) (w : Word) :
    (s.poweredOn g n w).ClaimsAdmissible :=
  ⟨fun k l hl => by simp [SlotState.holding?] at hl, fun c e he => by simp [CellState.waiting?] at he⟩

/-- Settles O55: a claim is admissible when it is made (R73), a grant keeps its range, and a profile is loaded only past test 7 (R178). -/
theorem stepKeepsClaimsAdmissible : Obligations.StepKeepsClaimsAdmissible := fun _ _ hs h =>
  step_keeps_tables (fun _ _ => .congr) (fun _ _ => .change) State.claimsAdmissible_poweredOn h hs

end Sys2Proof.Machine
end

section
/-! SUPPORT. What every step keeps of the list, the scores, the field ranges, the granule ranges, the map, the charge queue and the quiet
under RESET. -/

namespace Sys2Proof.Machine

/-! ### The list (R89) -/

theorem State.ListSound.congr {s t : State} (h : SameTables s t) (hs : s.ListSound) : t.ListSound := by
  simpa only [State.ListSound, State.cell_sameTables h, h.order] using hs

/-- The cells a change empties leave the list, and no other (R96). -/
theorem State.ListSound.cellsChange {s : State} (hs : s.ListSound) {v : Vector WaitCell 64} {gone : CellNo → Bool}
    (hgone : ∀ c : CellNo, gone c = true → v[c].state = .empty)
    (hkept : ∀ c : CellNo, gone c = false → CellMove s (s.cell c).state v[c].state) :
    State.ListSound { s with cells := v, order := s.order.filter fun c => !gone c } := by
  obtain ⟨hnodup, hmem⟩ := hs
  refine ⟨hnodup.filter _, fun c => ?_⟩
  change c ∈ s.order.filter (fun c => !gone c) ↔ v[c].state ≠ .empty
  cases hc : gone c with
  | true => rw [hgone c hc]; simp [hc]
  | false => rw [ne_eq, (hkept c hc).empty_iff]; simp [hc, hmem]

theorem State.ListSound.change {s t : State} (h : Change s t) (hs : s.ListSound) : t.ListSound := by
  cases h with
  | outside h => exact hs.congr h.toSameTables
  | cells v gone hgone hkept => exact hs.cellsChange hgone hkept
  | deferred a w0 q m r c hq hr ht hc =>
    obtain ⟨hnodup, hmem⟩ := hs
    have hnew : c ∉ s.order := fun h => (hmem c).1 h hc.1
    refine ⟨List.nodup_append.2 ⟨hnodup, List.nodup_singleton c, ?_⟩, fun d => ?_⟩
    · rintro x hx y hy rfl
      exact hnew (List.mem_singleton.1 hy ▸ hx)
    · change d ∈ s.order ++ [c] ↔ ((s.setCellState c _).cell d).state ≠ .empty
      rw [State.cell_setCellState, List.mem_append, List.mem_singleton, hmem]
      split
      · next h => simp [h]
      · next h => simp [Ne.symm h]
  | granted c e r w k hc hk hm =>
    refine ⟨hs.1, fun d => ?_⟩
    change d ∈ s.order ↔ ((State.setCellState _ c _).cell d).state ≠ .empty
    rw [State.cell_setCellState, hs.2, State.cell_setSlotState]
    split
    · next h => simp [← h, hc]
    · rfl
  | _ => exact hs

theorem State.listSound_poweredOn (s : State) (g : Bool) (n : BitVec 2) (w : Word) : (s.poweredOn g n w).ListSound :=
  ⟨List.nodup_nil, fun c => by rw [State.cell_poweredOn]; simp [State.poweredOn, State.reset]⟩

/-! ### The scores (R128) -/

/-- The three scores of the record are in range (R128). -/
def AgentRecord.ScoresInRange (r : AgentRecord) : Prop := r.overstay.InRange ∧ r.abandon.InRange ∧ r.trespass.InRange

theorem State.scoresInRange_iff (s : State) : s.ScoresInRange ↔ ∀ a, (s.agent a).ScoresInRange := Iff.rfl

theorem Score.InRange.charged {x : Score} (h : x.InRange) : x.charged.InRange := by
  obtain ⟨hmin, hmax, hraw⟩ := h
  refine ⟨Nat.le_max_left _ _, Nat.max_le.2 ⟨by omega, by omega⟩, ?_⟩
  simp only [Score.charged]
  split <;> omega

theorem Score.InRange.credited {x : Score} (h : x.InRange) : x.credited.InRange := by
  obtain ⟨hmin, hmax, hraw⟩ := h
  exact ⟨Nat.le_min.2 ⟨by omega, by omega⟩, Nat.min_le_left _ _, hraw⟩

theorem Score.cleared_inRange (x : Score) : x.cleared.InRange := by simp [Score.InRange, Score.cleared]

theorem AgentMove.scoresInRange {s : State} {a : AgentNo} {r r' : AgentRecord} (h : AgentMove s a r r') (hr : r.ScoresInRange) :
    r'.ScoresInRange := by
  obtain ⟨ho, hb, ht⟩ := hr
  cases h with
  | charged n =>
    cases n with
    | overstay => exact ⟨ho.charged, hb, ht⟩
    | abandon => exact ⟨ho, hb.charged, ht⟩
    | trespass => exact ⟨ho, hb, ht.charged⟩
  | credited => exact ⟨ho.credited, hb.credited, ht.credited⟩
  | cleared => exact ⟨Score.cleared_inRange _, Score.cleared_inRange _, Score.cleared_inRange _⟩
  | _ => exact ⟨ho, hb, ht⟩

theorem State.ScoresInRange.congr {s t : State} (h : SameTables s t) (hs : s.ScoresInRange) : t.ScoresInRange := by
  simpa only [State.scoresInRange_iff, State.agent_sameTables h] using hs

theorem State.ScoresInRange.change {s t : State} (h : Change s t) (hs : s.ScoresInRange) : t.ScoresInRange := by
  cases h with
  | outside h => exact hs.congr h.toSameTables
  | agents v h => exact fun a => (h a).scoresInRange (hs a)
  | _ => exact hs

theorem State.scoresInRange_poweredOn (s : State) (g : Bool) (n : BitVec 2) (w : Word) : (s.poweredOn g n w).ScoresInRange := by
  intro a
  rw [State.agent_poweredOn]
  simp [powerOnAgent, powerOnScore, Score.InRange]

/-! ### The map (R6) -/

/-- No two entries of the list that are both valid intersect. -/
theorem someValidIntersect_eq_false_iff (ps : List Partition) :
    someValidIntersect ps = false ↔
      ps.Pairwise fun p q => p.valid = true → q.valid = true → p.range.intersects q.range = false := by
  induction ps with
  | nil => simp [someValidIntersect]
  | cons p ps ih =>
    rw [someValidIntersect, Bool.or_eq_false_iff, ih, List.pairwise_cons]
    refine and_congr_left fun _ => ?_
    cases p.valid <;> simp

/-- The map has no two different valid entries that intersect (R6). -/
theorem someValidIntersect_toList_eq_false_iff (map : Vector Partition 8) :
    someValidIntersect map.toList = false ↔
      ∀ i j : Fin 8, i ≠ j → map[i].valid = true → map[j].valid = true → map[i].range.intersects map[j].range = false := by
  rw [someValidIntersect_eq_false_iff, List.pairwise_iff_getElem]
  simp only [Vector.length_toList, Vector.getElem_toList]
  constructor
  · intro h i j hij hi hj
    obtain hlt | hlt := Nat.lt_or_gt_of_ne (Fin.val_ne_of_ne hij)
    · exact h i.val j.val i.isLt j.isLt hlt hi hj
    · rw [GranuleRange.intersects_comm]
      exact h j.val i.val j.isLt i.isLt hlt hj hi
  · intro h i j hi hj hlt
    exact h ⟨i, hi⟩ ⟨j, hj⟩ (Fin.ne_of_val_ne (Nat.ne_of_lt hlt))

theorem State.MapSound.congr {s t : State} (h : SameTables s t) (hs : s.MapSound) : t.MapSound := by
  simpa only [State.MapSound, h.map] using hs

theorem State.MapSound.change {s t : State} (h : Change s t) (hs : s.MapSound) : t.MapSound := by
  cases h with
  | outside h => exact hs.congr h.toSameTables
  | profile h =>
    obtain ⟨_, _, _, _, _, _, _, hmap⟩ := (profileFieldsInRange_iff _ _).1 (State.profileFieldsInRange_of_loadRefusal h)
    exact (someValidIntersect_toList_eq_false_iff _).1 hmap
  | _ => exact hs

/-- At power-on entry 0 alone is valid (R5). -/
theorem State.mapSound_poweredOn (s : State) (g : Bool) (n : BitVec 2) (w : Word) : (s.poweredOn g n w).MapSound := by
  have hvalid (i : Fin 8) (h : (powerOnMap g)[i].valid = true) : i = 0 := by
    rw [powerOnMap_getElem] at h
    by_contra hi
    simp [hi, powerOnInvalidEntry] at h
  exact fun i j hij hi hj => absurd ((hvalid i hi).trans (hvalid j hj).symm) hij

/-! ### The ranges of fields, timers and counts (R4, R17, R24, R26, R90, R118, R124, R148) -/

/-- The term and the timer of the slot's record are in range (R26). -/
def SlotState.FieldsInRange (x : SlotState) : Prop :=
  (∀ l ∈ x.lease?, 1 ≤ l.term.toNat) ∧ ∀ r ∈ x.remaining?, r ≤ x.timerBound

/-- The term and the timers of the cell's record are in range (R90). -/
def CellState.FieldsInRange (x : CellState) : Prop :=
  (∀ e ∈ x.entry?, 1 ≤ e.term.toNat) ∧ (∀ r ∈ x.waitLeft?, r ≤ 65534000) ∧ ∀ r ∈ x.collectLeft?, r ≤ 255000

/-- The lease limit and the nine settings of the record are in range (R118, R124). -/
def AgentRecord.FieldsInRange (r : AgentRecord) : Prop :=
  r.leaseLimit ≤ 16 ∧ r.overstay.settings.InRange ∧ r.abandon.settings.InRange ∧ r.trespass.settings.InRange

/-- The counts of the sweep record are in range (R148). -/
def SweepRecord.CountsInRange (r : SweepRecord) : Prop := r.revokedCount ≤ r.nextSlot ∧ r.nextSlot ≤ 128 ∧ r.tenths ≤ 9

theorem State.fieldsInRange_iff (s : State) :
    s.FieldsInRange ↔
      (1 ≤ s.holdPeriod.toNat ∧ 1 ≤ s.collectWindow.toNat) ∧ (∀ i : Fin 8, s.map[i].firstAgent ≤ s.map[i].lastAgent) ∧
      (∀ a, (s.agent a).FieldsInRange) ∧ (∀ k, (s.slot k).state.FieldsInRange) ∧ (∀ c, (s.cell c).state.FieldsInRange) ∧
      s.sweep.CountsInRange := Iff.rfl

theorem units_le_of_bitVec16 (x : BitVec 16) : units x.toNat ≤ 65535000 := by
  have := x.isLt
  simp only [units]
  omega

theorem units_le_of_bitVec8 (x : BitVec 8) : units x.toNat ≤ 255000 := by
  have := x.isLt
  simp only [units]
  omega

theorem one_le_toNat_of_ne_zero {n : Nat} {x : BitVec n} (h : x ≠ 0) : 1 ≤ x.toNat :=
  Nat.one_le_iff_ne_zero.2 fun h0 => h (BitVec.eq_of_toNat_eq h0)

theorem SlotState.fieldsInRange_held {l : AgentLease} {r : Nat} (hl : 1 ≤ l.term.toNat) (hr : r ≤ 65535000) :
    (SlotState.held l r).FieldsInRange :=
  ⟨fun _ h => by cases h; exact hl, fun _ h => by cases h; exact hr⟩

theorem SlotState.fieldsInRange_lapsed {l : AgentLease} {r : Nat} (hl : 1 ≤ l.term.toNat) (hr : r ≤ 255000) :
    (SlotState.lapsed l r).FieldsInRange :=
  ⟨fun _ h => by cases h; exact hl, fun _ h => by cases h; exact hr⟩

theorem SlotState.fieldsInRange_revoked {l : AgentLease} {r : Nat} (hl : 1 ≤ l.term.toNat) (hr : r ≤ 255000) :
    (SlotState.revoked l r).FieldsInRange :=
  ⟨fun _ h => by cases h; exact hl, fun _ h => by cases h; exact hr⟩

theorem SlotState.FieldsInRange.elapse {x : SlotState} (h : x.FieldsInRange) (d : Nat) : (x.elapse d).FieldsInRange := by
  obtain ⟨hl, hr⟩ := h
  cases x with
  | held l r => exact fieldsInRange_held (hl l rfl) ((Nat.sub_le r d).trans (hr r rfl))
  | lapsed l r => exact fieldsInRange_lapsed (hl l rfl) ((Nat.sub_le r d).trans (hr r rfl))
  | revoked l r => exact fieldsInRange_revoked (hl l rfl) ((Nat.sub_le r d).trans (hr r rfl))
  | _ => exact ⟨hl, hr⟩

theorem SlotMove.fieldsInRange {s : State} {x y : SlotState} (h : SlotMove s x y) (hx : x.FieldsInRange) : y.FieldsInRange := by
  have hhold : s.holdAmount ≤ 255000 := units_le_of_bitVec8 _
  cases h with
  | stays => exact hx
  | freed => exact ⟨nofun, nofun⟩
  | renewed l r term hterm hb =>
    refine SlotState.fieldsInRange_held ?_ (units_le_of_bitVec16 term)
    obtain rfl | hterm := hterm
    · exact hx.1 l rfl
    · exact one_le_toNat_of_ne_zero hterm
  | lapsed l r => exact SlotState.fieldsInRange_lapsed (hx.1 l rfl) hhold
  | heldRevoked l r => exact SlotState.fieldsInRange_revoked (hx.1 l rfl) hhold
  | lapsedRevoked l r => exact SlotState.fieldsInRange_revoked (hx.1 l rfl) hhold
  | collected l c => exact SlotState.fieldsInRange_held (hx.1 l rfl) (units_le_of_bitVec16 _)
  | elapsed d => exact hx.elapse d

theorem CellState.FieldsInRange.elapse {x : CellState} (h : x.FieldsInRange) (d : Nat) : (x.elapse d).FieldsInRange := by
  obtain ⟨he, hw, hc⟩ := h
  cases x with
  | empty => exact ⟨he, hw, hc⟩
  | waiting e r w =>
    refine ⟨he, fun n hn => ?_, hc⟩
    obtain ⟨m, hm, rfl⟩ := Option.map_eq_some_iff.1 hn
    exact (Nat.sub_le m d).trans (hw m hm)
  | granted e left k => exact ⟨he, hw, fun n hn => by cases hn; exact (Nat.sub_le left d).trans (hc left rfl)⟩
  | ended e o left => exact ⟨he, hw, fun n hn => by cases hn; exact (Nat.sub_le left d).trans (hc left rfl)⟩

theorem CellMove.fieldsInRange {s : State} {x y : CellState} (h : CellMove s x y) (hx : x.FieldsInRange) : y.FieldsInRange := by
  obtain ⟨he, hw, hc⟩ := hx
  cases h with
  | stays => exact ⟨he, hw, hc⟩
  | readied e r w o => exact ⟨he, nofun, fun n hn => by cases hn; exact units_le_of_bitVec8 _⟩
  | grantCancelled e left k => exact ⟨he, hw, hc⟩
  | elapsed d => exact CellState.FieldsInRange.elapse ⟨he, hw, hc⟩ d

theorem AgentMove.fieldsInRange {s : State} {a : AgentNo} {r r' : AgentRecord} (h : AgentMove s a r r') (hr : r.FieldsInRange) :
    r'.FieldsInRange := by
  obtain ⟨hlimit, hsettings⟩ := hr
  cases h with
  | charged n => cases n <;> exact ⟨hlimit, hsettings⟩
  | settings o b t ho hb ht => exact ⟨hlimit, ho, hb, ht⟩
  | port c limit hmax howned => exact ⟨hmax, hsettings⟩
  | _ => exact ⟨hlimit, hsettings⟩

theorem SweepMove.countsInRange {s : State} {r : SweepRecord} (h : SweepMove s r) (hs : s.sweep.CountsInRange) :
    r.CountsInRange := by
  obtain ⟨hrevoked, hnext, htenths⟩ := hs
  cases h with
  | begun k hr hs hk => exact ⟨Nat.le_refl _, Nat.zero_le _, Nat.le_refl _⟩
  | advanced revoked hs hn hr =>
    exact ⟨Nat.add_le_add hrevoked hr, hn, Nat.min_le_left _ _⟩
  | ended st hs => exact ⟨hrevoked, hnext, htenths⟩

theorem State.FieldsInRange.congr {s t : State} (h : SameTables s t) (hs : s.FieldsInRange) : t.FieldsInRange := by
  simpa only [State.fieldsInRange_iff, State.agent_sameTables h, State.slot_sameTables h, State.cell_sameTables h, h.map,
    h.holdPeriod, h.collectWindow, h.sweep] using hs

theorem State.FieldsInRange.setSlotState {s : State} (hs : s.FieldsInRange) {k : SlotNo} {x : SlotState} (hx : x.FieldsInRange) :
    (s.setSlotState k x).FieldsInRange := by
  obtain ⟨hpart, hmap, hagents, hslots, hcells, hsweep⟩ := s.fieldsInRange_iff.1 hs
  refine ⟨hpart, hmap, hagents, fun j => ?_, hcells, hsweep⟩
  rw [State.slot_setSlotState]
  split
  · exact hx
  · exact hslots j

theorem State.FieldsInRange.setCellState {s : State} (hs : s.FieldsInRange) {c : CellNo} {x : CellState} (hx : x.FieldsInRange) :
    (s.setCellState c x).FieldsInRange := by
  obtain ⟨hpart, hmap, hagents, hslots, hcells, hsweep⟩ := s.fieldsInRange_iff.1 hs
  refine ⟨hpart, hmap, hagents, hslots, fun d => ?_, hsweep⟩
  rw [State.cell_setCellState]
  split
  · exact hx
  · exact hcells d

/-- A wait limit below 65,535 starts a timer of at most 65,534 units (R81). -/
theorem le_of_mem_waitTimer {limit : BitVec 16} {n : Nat} (h : n ∈ waitTimer limit) : n ≤ 65534000 := by
  unfold waitTimer at h
  split at h
  · cases h
  · next hne =>
    cases h
    have := limit.isLt
    have : limit.toNat ≠ 65535 := fun h => hne (BitVec.eq_of_toNat_eq h)
    simp only [units]
    omega

theorem one_le_toNat_of_unitsInRange {h : Half} (hin : unitsInRange h = true) : 1 ≤ (h.extractLsb' 0 8).toNat := by
  simp only [unitsInRange, Bool.and_eq_true, decide_eq_true_eq] at hin
  rw [BitVec.extractLsb'_toNat]
  simp only [Nat.shiftRight_zero]
  omega

theorem partitionInRange_iff (largest : Word) (st : Vector Half 48) (e : Nat) :
    partitionInRange largest st e = true ↔
      (policyOf (halfField (profileWord st (1 + 5 * e)) 1 2)).isSome = true ∧
      halfField (profileWord st (1 + 5 * e)) 13 3 = 0 ∧ (readPartition st e).firstAgent ≤ (readPartition st e).lastAgent ∧
      (readPartition st e).range.first ≤ (readPartition st e).range.last ∧ (readPartition st e).range.last ≤ largest := by
  simp [partitionInRange, GranuleRange.wellFormed, and_assoc]

theorem readProfile_map_getElem (st : Vector Half 48) (e : Fin 8) : (readProfile st).map[e] = readPartition st e.val := by
  simp [readProfile]

theorem State.partitionInRange_of_loadRefusal {s : State} (h : s.loadRefusal = none) (e : Fin 8) :
    partitionInRange s.largestGranule s.staging e.val = true :=
  ((profileFieldsInRange_iff _ _).1 (State.profileFieldsInRange_of_loadRefusal h)).1 e.val e.isLt

theorem State.FieldsInRange.change {s t : State} (h : Change s t) (hs : s.FieldsInRange) : t.FieldsInRange := by
  obtain ⟨hpart, hmap, hagents, hslots, hcells, hsweep⟩ := s.fieldsInRange_iff.1 hs
  cases h with
  | outside h => exact hs.congr h.toSameTables
  | slots v h => exact ⟨hpart, hmap, hagents, fun k => (h k).fieldsInRange (hslots k), hcells, hsweep⟩
  | cells v gone hgone hkept =>
    refine ⟨hpart, hmap, hagents, hslots, fun c => ?_, hsweep⟩
    change v[c].state.FieldsInRange
    cases hc : gone c with
    | true => rw [hgone c hc]; exact ⟨nofun, nofun, nofun⟩
    | false => exact (hkept c hc).fieldsInRange (hcells c)
  | agents v h => exact ⟨hpart, hmap, fun a => (h a).fieldsInRange (hagents a), hslots, hcells, hsweep⟩
  | sweep r h => exact ⟨hpart, hmap, hagents, hslots, hcells, h.countsInRange hsweep⟩
  | profile h =>
    obtain ⟨_, _, _, _, _, hhold, hcollect, _⟩ := (profileFieldsInRange_iff _ _).1 (State.profileFieldsInRange_of_loadRefusal h)
    refine ⟨⟨one_le_toNat_of_unitsInRange hhold, one_le_toNat_of_unitsInRange hcollect⟩, fun e => ?_,
      hagents, hslots, hcells, hsweep⟩
    obtain ⟨_, _, hagentsOrdered, _⟩ := (partitionInRange_iff _ _ _).1 (State.partitionInRange_of_loadRefusal h e)
    rwa [readProfile_map_getElem]
  | acquired a w0 q m k hq hk =>
    obtain ⟨_, ⟨_, _, _, hterm⟩, _⟩ := hq
    exact hs.setSlotState (SlotState.fieldsInRange_held (one_le_toNat_of_ne_zero hterm) (units_le_of_bitVec16 _))
  | deferred a w0 q m r c hq hr ht hc =>
    obtain ⟨_, ⟨_, _, _, hterm⟩, _⟩ := hq
    exact hs.setCellState ⟨fun e he => by cases he; exact one_le_toNat_of_ne_zero hterm, fun n hn => le_of_mem_waitTimer hn, nofun⟩
  | fenced r k hr hw hl hk => exact hs.setSlotState ⟨nofun, nofun⟩
  | granted c e r w k hc hk hm =>
    have hterm : 1 ≤ e.term.toNat := (hcells c).1 e (by rw [hc]; rfl)
    have hslot : (SlotState.reserved e.lease c).FieldsInRange := ⟨fun l hl => by cases hl; exact hterm, nofun⟩
    have hcell : (CellState.granted e s.collectAmount k).FieldsInRange :=
      ⟨fun e he => by cases he; exact hterm, nofun, fun n hn => by cases hn; exact units_le_of_bitVec8 _⟩
    exact (hs.setSlotState hslot).setCellState hcell

theorem State.fieldsInRange_poweredOn (s : State) (g : Bool) (n : BitVec 2) (w : Word) : (s.poweredOn g n w).FieldsInRange := by
  have hpart : 1 ≤ powerOnHoldPeriod.toNat ∧ 1 ≤ powerOnCollectWindow.toNat := by decide
  have hsweep : powerOnSweep.CountsInRange := ⟨Nat.le_refl _, Nat.zero_le _, Nat.zero_le _⟩
  refine ⟨hpart, fun i => ?_, fun a => ?_, fun k => ?_, fun c => ?_, hsweep⟩
  · rw [State.map_poweredOn, powerOnMap_getElem]
    split
    · exact Fin.zero_le _
    · exact Fin.zero_le _
  · rw [State.agent_poweredOn]
    decide
  · rw [State.slot_poweredOn]
    exact ⟨nofun, nofun⟩
  · rw [State.cell_poweredOn]
    exact ⟨nofun, nofun, nofun⟩

/-! ### The ranges held (R3) -/

theorem State.RangesWellFormed.congr {s t : State} (h : SameTables s t) (hs : s.RangesWellFormed) : t.RangesWellFormed := by
  have hlargest : t.largestGranule = s.largestGranule := by simp only [State.largestGranule, h.granule64]
  simpa only [State.RangesWellFormed, State.WellFormedRange, State.slot_sameTables h, State.cell_sameTables h, h.map, h.sweep,
    hlargest] using hs

theorem State.RangesWellFormed.setSlotState {s : State} (hs : s.RangesWellFormed) {k : SlotNo} {x : SlotState}
    (hx : ∀ r ∈ x.range?, s.WellFormedRange r) : (s.setSlotState k x).RangesWellFormed := by
  obtain ⟨hslots, hrest⟩ := hs
  refine ⟨fun j => ?_, hrest⟩
  rw [State.slot_setSlotState]
  split
  · exact hx
  · exact hslots j

theorem State.RangesWellFormed.setCellState {s : State} (hs : s.RangesWellFormed) {c : CellNo} {x : CellState}
    (hx : ∀ e ∈ x.entry?, s.WellFormedRange e.range) : (s.setCellState c x).RangesWellFormed := by
  obtain ⟨hslots, hcells, hrest⟩ := hs
  refine ⟨hslots, fun d => ?_, hrest⟩
  rw [State.cell_setCellState]
  split
  · exact hx
  · exact hcells d

theorem State.wellFormedRange_of_sweepParams {s : State} {k : SweepKind} (h : s.sweepParams = some k) :
    ∀ r ∈ k.range?, s.WellFormedRange r := by
  unfold State.sweepParams at h
  split at h
  · dsimp only at h
    split at h
    · next hw =>
      cases h
      rintro r ⟨⟩
      simpa [GranuleRange.wellFormed] using hw
    · cases h
  · split at h
    · split at h
      · cases h
      · cases h
        exact nofun
    · cases h
  · cases h

theorem State.RangesWellFormed.change {s t : State} (h : Change s t) (hs : s.RangesWellFormed) : t.RangesWellFormed := by
  obtain ⟨hslots, hcells, hmap, hsweep⟩ := hs
  cases h with
  | outside h => exact State.RangesWellFormed.congr h.toSameTables ⟨hslots, hcells, hmap, hsweep⟩
  | slots v h => exact ⟨fun k r hr => hslots k r ((h k).range hr), hcells, hmap, hsweep⟩
  | cells v gone hgone hkept => exact ⟨hslots, fun c e he => hcells c e (entry_of_cells_change hgone hkept he), hmap, hsweep⟩
  | sweep r h =>
    refine ⟨hslots, hcells, hmap, ?_⟩
    cases h with
    | begun k hr hs hk => rintro k' ⟨⟩; exact State.wellFormedRange_of_sweepParams hk
    | advanced revoked hs hn hr => exact hsweep
    | ended st hs => exact hsweep
  | profile h =>
    refine ⟨hslots, hcells, fun e => ?_, hsweep⟩
    obtain ⟨_, _, _, hrange⟩ := (partitionInRange_iff _ _ _).1 (State.partitionInRange_of_loadRefusal h e)
    rwa [readProfile_map_getElem]
  | acquired a w0 q m k hq hk =>
    obtain ⟨_, ⟨_, hfirst, hlast, _⟩, _⟩ := hq
    exact State.RangesWellFormed.setSlotState ⟨hslots, hcells, hmap, hsweep⟩ fun r hr => by cases hr; exact ⟨hfirst, hlast⟩
  | deferred a w0 q m r c hq hr ht hc =>
    obtain ⟨_, ⟨_, hfirst, hlast, _⟩, _⟩ := hq
    exact State.RangesWellFormed.setCellState ⟨hslots, hcells, hmap, hsweep⟩ fun e he => by cases he; exact ⟨hfirst, hlast⟩
  | fenced r k hr hw hl hk =>
    exact State.RangesWellFormed.setSlotState ⟨hslots, hcells, hmap, hsweep⟩ fun r hr => by cases hr; exact hw
  | granted c e r w k hc hk hm =>
    have he : s.WellFormedRange e.range := hcells c e (by rw [hc]; rfl)
    have hslot := State.RangesWellFormed.setSlotState (k := k) (x := .reserved e.lease c) ⟨hslots, hcells, hmap, hsweep⟩
      fun r hr => by cases hr; exact he
    exact hslot.setCellState fun e' he' => by cases he'; exact he
  | agents v h => exact ⟨hslots, hcells, hmap, hsweep⟩

theorem State.rangesWellFormed_poweredOn (s : State) (g : Bool) (n : BitVec 2) (w : Word) :
    (s.poweredOn g n w).RangesWellFormed := by
  refine ⟨fun k => ?_, fun c => ?_, fun i => ?_, nofun⟩
  · rw [State.slot_poweredOn]
    exact nofun
  · rw [State.cell_poweredOn]
    exact nofun
  · rw [State.map_poweredOn, powerOnMap_getElem]
    change _ ∧ _ ≤ largestGranuleOf g
    cases g <;> split <;> decide

/-! ### The charge queue (R126, R188) -/

/-- No change touches the charge queue or the check port. -/
theorem Change.checkPort {s t : State} (h : Change s t) :
    t.charges = s.charges ∧ t.presented = s.presented ∧ t.ckAnswer = s.ckAnswer := by
  cases h with
  | outside h => exact ⟨h.charges, h.presented, h.ckAnswer⟩
  | _ => exact ⟨rfl, rfl, rfl⟩

theorem Changes.checkPort {s t : State} (h : Changes s t) :
    t.charges = s.charges ∧ t.presented = s.presented ∧ t.ckAnswer = s.ckAnswer := by
  refine Changes.keeps (P := fun u => u.charges = s.charges ∧ u.presented = s.presented ∧ u.ckAnswer = s.ckAnswer)
    (fun u v huv hu => ?_) h ⟨rfl, rfl, rfl⟩
  obtain ⟨hcharges, hpresented, hanswer⟩ := huv.checkPort
  rw [hcharges, hpresented, hanswer]
  exact hu

theorem State.ChargeQueueSound.changes {s t : State} (h : Changes s t) (hs : s.ChargeQueueSound) : t.ChargeQueueSound := by
  obtain ⟨hcharges, hpresented, hanswer⟩ := h.checkPort
  simpa only [State.ChargeQueueSound, hcharges, hpresented, hanswer] using hs

/-- A lookup presented with CK_DONE low is taken, or the queue holds 8 charges (R126, R183). -/
theorem State.takePresented_chargeQueueSound {s : State} (hlen : s.charges.length ≤ 8)
    (hdone : s.presented ≠ none → s.ckAnswer = none) : s.takePresented.ChargeQueueSound := by
  cases hp : s.presented with
  | none =>
    rw [State.takePresented_of_none hp]
    exact ⟨hlen, fun h => absurd hp h⟩
  | some l =>
    cases hr : s.resetHeld with
    | true =>
      rw [State.takePresented_of_reset hr hp]
      exact ⟨hlen, fun h => absurd rfl h⟩
    | false =>
      obtain hroom | hfull := Nat.lt_or_ge s.charges.length 8
      · rw [State.takePresented_of_room hr hroom hp]
        refine ⟨?_, fun h => absurd rfl h⟩
        simp only [State.withLookupTaken]
        split
        · exact hlen
        · simpa using hroom
      · rw [State.takePresented_of_full hr hfull]
        exact ⟨hlen, fun h => ⟨Nat.le_antisymm hlen hfull, hdone h⟩⟩

theorem State.ChargeQueueSound.presentNext {s : State} (hs : s.ChargeQueueSound) : s.presentNext.ChargeQueueSound := by
  unfold State.presentNext
  split
  · exact State.takePresented_chargeQueueSound hs.1 fun _ => rfl
  · exact hs

theorem State.ChargeQueueSound.pollCheckPort {s : State} (hs : s.ChargeQueueSound) : s.pollCheckPort.ChargeQueueSound := by
  unfold State.pollCheckPort
  split
  · next hp _ _ => exact ⟨hs.1, fun h => absurd hp h⟩
  · exact hs.presentNext

theorem State.ChargeQueueSound.step {s t : State} (h : step s = .next t) (hs : s.ChargeQueueSound) : t.ChargeQueueSound := by
  have hdone : s.presented ≠ none → s.ckAnswer = none := fun h => (hs.2 h).2
  cases step_shape h with
  | changes h => exact hs.changes h
  | powerOn p g n w => exact ⟨Nat.zero_le _, fun h => absurd rfl h⟩
  | resetHeld p => exact State.takePresented_chargeQueueSound (Nat.zero_le _) hdone
  | lookup p q => exact State.ChargeQueueSound.presentNext hs
  | trespass p a rest u hc hu =>
    obtain ⟨hcharges, hpresented, hanswer⟩ := hu.checkPort
    have hlen : rest.length + 1 ≤ 8 := by simpa [hc] using hs.1
    refine State.takePresented_chargeQueueSound ?_ (by rwa [hpresented, hanswer])
    rw [hcharges]
    exact Nat.le_of_succ_le hlen
  | idle h => exact hs.pollCheckPort.changes h

/-! ### Quiet under RESET (R183) -/

theorem Change.resetHeld {s t : State} (h : Change s t) : t.resetHeld = s.resetHeld := by
  cases h with
  | outside h => exact h.resetHeld
  | _ => rfl

theorem Changes.resetHeld {s t : State} (h : Changes s t) : t.resetHeld = s.resetHeld :=
  h.keeps (P := fun u => u.resetHeld = s.resetHeld) (fun _ _ huv hu => huv.resetHeld.trans hu) rfl

/-- On a quiet part under RESET nothing starts: each kind of change needs a tenure, a sweep, an entry, a lease or the part running. -/
theorem State.QuietUnderReset.change {s t : State} (h : Change s t) (hs : s.QuietUnderReset) : t.QuietUnderReset := by
  intro hr
  rw [h.resetHeld] at hr
  obtain ⟨htenure, hsweep, hcharges, hpresented, hsnapshot, henable, hslots, hcells⟩ := hs hr
  cases h with
  | outside h =>
    refine ⟨h.tenure hr htenure, h.sweep ▸ hsweep, h.charges ▸ hcharges, h.presented ▸ hpresented, h.snapshot hr hsnapshot,
      (h.globalEnable hr).trans henable, fun k => ?_, fun c => ?_⟩
    · rw [State.slot_sameTables h.toSameTables, hslots]
    · rw [State.cell_sameTables h.toSameTables, hcells]
  | slots v h => exact ⟨htenure, hsweep, hcharges, hpresented, hsnapshot, henable, fun k => (h k).free (hslots k), hcells⟩
  | cells v gone hgone hkept =>
    refine ⟨htenure, hsweep, hcharges, hpresented, hsnapshot, henable, hslots, fun c => ?_⟩
    cases hc : gone c with
    | true => exact hgone c hc
    | false => exact (hkept c hc).empty_iff.2 (hcells c)
  | sweep r h =>
    cases h with
    | begun k hrun hs hk => exact nomatch hr.symm.trans hrun
    | advanced revoked hs hn hr => exact nomatch hsweep.symm.trans hs
    | ended st hs => exact nomatch hsweep.symm.trans hs
  | acquired a w0 q m k hq hk =>
    obtain ⟨⟨hrequest, _⟩, _⟩ := hq
    exact nomatch htenure.symm.trans hrequest
  | deferred a w0 q m r c hq hb ht hc =>
    obtain ⟨⟨hrequest, _⟩, _⟩ := hq
    exact nomatch htenure.symm.trans hrequest
  | fenced r k hrun hw hl hk => exact nomatch hr.symm.trans hrun
  | granted c e r w k hc hk hm => exact nomatch (hcells c).symm.trans hc
  | _ => exact ⟨htenure, hsweep, hcharges, hpresented, hsnapshot, henable, hslots, hcells⟩

theorem State.quietUnderReset_poweredOn (s : State) (g : Bool) (n : BitVec 2) (w : Word) :
    (s.poweredOn g n w).QuietUnderReset := nofun

theorem State.takePresented_resetHeld (s : State) : s.takePresented.resetHeld = s.resetHeld := by
  unfold State.takePresented
  split
  · rfl
  · split_ifs <;> rfl

/-- Under RESET the lookup presented is answered at once, so that none is left presented (R183; log 11). -/
theorem State.takePresented_quietUnderReset {s : State} (hs : State.QuietUnderReset { s with presented := none }) :
    s.takePresented.QuietUnderReset := by
  intro hr
  rw [State.takePresented_resetHeld] at hr
  cases hp : s.presented with
  | none =>
    obtain ⟨htenure, hsweep, hcharges, _, hrest⟩ := hs hr
    rw [State.takePresented_of_none hp]
    exact ⟨htenure, hsweep, hcharges, hp, hrest⟩
  | some l =>
    rw [State.takePresented_of_reset hr hp]
    exact hs hr

theorem State.QuietUnderReset.presentNext {s : State} (hs : s.QuietUnderReset) : s.presentNext.QuietUnderReset := by
  unfold State.presentNext
  split
  · next hp _ =>
    refine State.takePresented_quietUnderReset fun hr => ?_
    obtain ⟨htenure, hsweep, hcharges, _, hrest⟩ := hs hr
    exact ⟨htenure, hsweep, hcharges, rfl, hrest⟩
  · exact hs

theorem State.QuietUnderReset.pollCheckPort {s : State} (hs : s.QuietUnderReset) : s.pollCheckPort.QuietUnderReset := by
  unfold State.pollCheckPort
  split
  · exact hs
  · exact hs.presentNext

theorem State.quietUnderReset_resetAsserted (s : State) :
    State.QuietUnderReset { s.resetAsserted with presented := none } := fun _ =>
  ⟨rfl, rfl, rfl, rfl, rfl, rfl, fun k => by
    change ((s.poweredOn s.granule64 s.agentsCode s.attach).slot k).state = .free
    rw [State.slot_poweredOn], fun c => by
    change ((s.poweredOn s.granule64 s.agentsCode s.attach).cell c).state = .empty
    rw [State.cell_poweredOn]⟩

theorem State.QuietUnderReset.step {s t : State} (h : step s = .next t) (hs : s.QuietUnderReset) : t.QuietUnderReset := by
  have hchange : ∀ u v, Change u v → u.QuietUnderReset → v.QuietUnderReset := fun _ _ => .change
  cases step_shape h with
  | changes h => exact h.keeps hchange hs
  | powerOn p g n w => exact State.quietUnderReset_poweredOn _ g n w
  | resetHeld p => exact State.takePresented_quietUnderReset (State.quietUnderReset_resetAsserted _)
  | lookup p q => exact State.QuietUnderReset.presentNext hs
  | trespass p a rest u hc hu =>
    intro hr
    rw [State.takePresented_resetHeld, hu.resetHeld] at hr
    obtain ⟨_, _, hcharges, _⟩ := hs hr
    exact nomatch hc.symm.trans hcharges
  | idle h => exact h.keeps hchange hs.pollCheckPort

/-! ### All together -/

/-- Settles O59: five of the seven are laws of the tables, which every change keeps; the charge queue and the quiet under RESET go by the
shape of the step. -/
theorem stepKeepsTablesSound : Obligations.StepKeepsTablesSound := fun _ _ h =>
  ⟨step_keeps_tables (fun _ _ => .congr) (fun _ _ => .change) State.listSound_poweredOn h,
    step_keeps_tables (fun _ _ => .congr) (fun _ _ => .change) State.scoresInRange_poweredOn h, .step h,
    step_keeps_tables (fun _ _ => .congr) (fun _ _ => .change) State.fieldsInRange_poweredOn h,
    step_keeps_tables (fun _ _ => .congr) (fun _ _ => .change) State.rangesWellFormed_poweredOn h, .step h,
    step_keeps_tables (fun _ _ => .congr) (fun _ _ => .change) State.mapSound_poweredOn h⟩

/-! ### The part right after reset -/

theorem State.reset_eq_poweredOn : State.reset = State.reset.poweredOn false 0 0 := rfl

theorem State.ownedSlots_poweredOn (s : State) (g : Bool) (n : BitVec 2) (w : Word) (a : AgentNo) :
    (s.poweredOn g n w).ownedSlots a = 0 := by
  simp [State.ownedSlots, State.poweredOn, State.reset, powerOnSlot, SlotState.ownedBy, SlotState.lease?]

theorem State.ticketCount_poweredOn (s : State) (g : Bool) (n : BitVec 2) (w : Word) (a : AgentNo) :
    (s.poweredOn g n w).ticketCount a = 0 := by
  simp [State.ticketCount, State.poweredOn, State.reset, powerOnCell, CellState.ownedBy, CellState.entry?]

theorem State.chargeQueueSound_poweredOn (s : State) (g : Bool) (n : BitVec 2) (w : Word) :
    (s.poweredOn g n w).ChargeQueueSound := ⟨Nat.zero_le _, fun h => absurd rfl h⟩

/-- Every law of the part holds at power-on: the tables are empty, and entry 0 of the map is the only valid one (R5, R52, R114, R119). -/
theorem State.lawful_poweredOn (s : State) (g : Bool) (n : BitVec 2) (w : Word) : (s.poweredOn g n w).Lawful where
  holders := s.noTwoHoldersConflict_poweredOn g n w
  paired := ⟨fun k l c h => by simp at h, fun c e left k h => by simp at h⟩
  list := s.listSound_poweredOn g n w
  limits a := by simp [State.ownedSlots_poweredOn, State.ticketCount_poweredOn]
  held k l r h := by simp at h
  admissible := s.claimsAdmissible_poweredOn g n w
  sweep k l h := by simp [SlotState.holding?] at h
  barred c e h := by simp [CellState.waiting?] at h
  order c d o e left k _ h := by simp [CellState.waiting?] at h
  scores := s.scoresInRange_poweredOn g n w
  charges := s.chargeQueueSound_poweredOn g n w
  fields := s.fieldsInRange_poweredOn g n w
  ranges := s.rangesWellFormed_poweredOn g n w
  quiet := s.quietUnderReset_poweredOn g n w
  map := s.mapSound_poweredOn g n w

/-- Settles O60: reset is a power-on. -/
theorem resetIsLawful : Obligations.ResetIsLawful := by
  unfold Obligations.ResetIsLawful
  rw [State.reset_eq_poweredOn]
  exact State.lawful_poweredOn _ false 0 0

end Sys2Proof.Machine
end

section
/-! SUPPORT. Granules, partitions, the conflict relation, power-on and the tests of LOAD_PROFILE. -/

namespace Sys2Proof.Machine

/-! ### Granules of addresses (R2) -/

theorem State.granuleOf_toNat (s : State) (addr : BitVec 40) :
    (s.granuleOf addr).toNat = addr.toNat / (if s.granule64 then 65536 else 4096) := by
  have := addr.isLt
  unfold State.granuleOf
  split
  · simp only [BitVec.toNat_setWidth, BitVec.toNat_ushiftRight, Nat.shiftRight_eq_div_pow]
    omega
  · simp only [BitVec.toNat_setWidth, BitVec.toNat_ushiftRight, Nat.shiftRight_eq_div_pow]
    omega

/-- Settles O31: the shift is the division, and the decision reads the address through its granule alone. -/
theorem granuleOfAddress : Obligations.GranuleOfAddress := by
  intro s addr
  have hlt := addr.isLt
  have hgranule := s.granuleOf_toNat addr
  refine ⟨fun h => ?_, fun h => ?_, fun other a kind heq => ?_⟩
  · simp only [h, Bool.false_eq_true, if_false] at hgranule
    omega
  · simp only [h, if_true] at hgranule
    omega
  · have hsame : s.granuleOf addr = s.granuleOf other :=
      BitVec.eq_of_toNat_eq (by rw [hgranule, s.granuleOf_toNat other, heq])
    rw [hsame]

/-! ### The conflict relation (R12) -/

theorem GranuleRange.intersects_iff (r q : GranuleRange) :
    r.intersects q = true ↔ r.first.toNat ≤ q.last.toNat ∧ q.first.toNat ≤ r.last.toNat := by
  simp [GranuleRange.intersects, BitVec.le_def]

theorem ClaimMode.excludes_iff (m : ClaimMode) : m.excludes = true ↔ m = .exclusive ∨ m = .fence := by
  cases m <;> simp [ClaimMode.excludes]

theorem ClaimMode.excludes_eq_false_iff (m : ClaimMode) : m.excludes = false ↔ m = .shared := by
  cases m <;> simp [ClaimMode.excludes]

theorem Claim.conflicts_iff (a b : Claim) :
    a.conflicts b = true ↔
      (a.range.first.toNat ≤ b.range.last.toNat ∧ b.range.first.toNat ≤ a.range.last.toNat) ∧ a.owner ≠ b.owner ∧
        (a.mode = .exclusive ∨ a.mode = .fence ∨ b.mode = .exclusive ∨ b.mode = .fence) := by
  rw [Claim.conflicts, Bool.and_eq_true, Bool.and_eq_true, Bool.or_eq_true, GranuleRange.intersects_iff, decide_eq_true_iff,
    ClaimMode.excludes_iff, ClaimMode.excludes_iff, and_assoc, or_assoc]

/-- Settles O32, by the three parts of the relation. -/
theorem conflictRelation : Obligations.ConflictRelation := by
  intro a b
  refine ⟨a.conflicts_iff b, by rw [Claim.conflicts_comm], fun hrange howner => ?_⟩
  rw [Claim.conflicts, hrange, decide_eq_true howner, Bool.true_and, Bool.true_and, Bool.or_eq_false_iff,
    ClaimMode.excludes_eq_false_iff, ClaimMode.excludes_eq_false_iff]

/-! ### Admissibility (R7, R9) -/

theorem GranuleRange.covers_iff (r : GranuleRange) (g : Word) : r.covers g = true ↔ r.first ≤ g ∧ g ≤ r.last := by
  simp [GranuleRange.covers]

theorem Partition.admits_iff (p : Partition) (a : AgentNo) (g : Word) :
    p.admits a g = true ↔ p.valid = true ∧ (p.range.first ≤ g ∧ g ≤ p.range.last) ∧ p.firstAgent ≤ a ∧ a ≤ p.lastAgent := by
  simp [Partition.admits, Partition.openTo, GranuleRange.covers_iff, and_assoc]

theorem admissible_iff (map : Vector Partition 8) (a : AgentNo) (r : GranuleRange) :
    admissible map a r = true ↔ ∃ i : Fin 8, map[i].admits a r.first = true ∧ map[i].admits a r.last = true := by
  simp only [admissible, List.any_eq_true, Vector.mem_toList_iff, Vector.mem_iff_getElem, Bool.and_eq_true]
  constructor
  · rintro ⟨_, ⟨i, hi, rfl⟩, h⟩
    exact ⟨⟨i, hi⟩, h⟩
  · rintro ⟨i, h⟩
    exact ⟨_, ⟨i.val, i.isLt, rfl⟩, h⟩

/-- A partition that admits both ends of a range admits all of it (R9). -/
theorem Partition.admits_of_ends {p : Partition} {a : AgentNo} {r : GranuleRange} (hfirst : p.admits a r.first = true)
    (hlast : p.admits a r.last = true) {g : Word} (hg : r.covers g = true) : p.admits a g = true := by
  rw [Partition.admits_iff] at hfirst hlast ⊢
  rw [GranuleRange.covers_iff] at hg
  obtain ⟨hvalid, ⟨hlow, _⟩, hopen⟩ := hfirst
  obtain ⟨_, ⟨_, hhigh⟩, _⟩ := hlast
  exact ⟨hvalid, ⟨BitVec.le_trans hlow hg.1, BitVec.le_trans hg.2 hhigh⟩, hopen⟩

/-- Settles O33: the partition that admits both ends is an interval, so it admits what lies between. -/
theorem admissibleRanges : Obligations.AdmissibleRanges := by
  intro s a r
  refine ⟨?_, fun _ hadm => ?_⟩
  · rw [admissible_iff]
    refine exists_congr fun i => ?_
    rw [Partition.admits_iff, Partition.admits_iff]
    tauto
  · obtain ⟨i, hfirst, hlast⟩ := (admissible_iff _ _ _).1 hadm
    exact ⟨i, fun g hg => Partition.admits_of_ends hfirst hlast hg⟩

/-! ### Power-on (R183) -/

theorem powerOnAgent_standing : powerOnAgent.standing = .good := by decide

/-- At power-on no source is pending, so TOP reads NONE (R185, R187). -/
theorem State.live_poweredOn (s : State) (g : Bool) (n : BitVec 2) (w : Word) (x : Source) : (s.poweredOn g n w).live x = false := by
  simp [State.live, State.poweredOn, State.reset, powerOnSource]

/-- Settles O4: the state after power-on is `State.poweredOn`, read field by field. -/
theorem powerOnGivesPowerOnValues : Obligations.PowerOnGivesPowerOnValues := by
  intro g n w s
  refine ⟨s.poweredOn g n w, rfl, rfl, rfl, rfl, rfl, fun e => ?_, rfl, rfl, rfl, rfl, rfl, s.slot_poweredOn g n w,
    s.cell_poweredOn g n w, rfl, fun a => ?_, rfl, rfl, rfl, rfl, rfl, rfl, rfl, rfl, rfl, rfl, rfl, fun i => ?_, rfl, rfl,
    fun i => ?_, rfl, fun i => ?_, rfl, rfl, ?_, rfl, rfl, rfl, rfl⟩
  · rw [State.map_poweredOn, powerOnMap_getElem]
    rfl
  · rw [State.standing, State.agent_poweredOn]
    exact ⟨rfl, powerOnAgent_standing⟩
  · simp [State.poweredOn, State.reset]
  · simp [State.poweredOn, State.reset]
  · simp [State.poweredOn, State.reset, powerOnSource]
  · exact List.find?_eq_none.2 fun x _ => by simp [State.live_poweredOn]

end Sys2Proof.Machine
end

section
/-! SUPPORT. The profile block and the tests of LOAD_PROFILE (R177, R178, 13.6). -/

namespace Sys2Proof.Machine

/-! ### The fields of the block (13.6) -/

theorem profileWord_eq (st : Vector Half 48) {n : Nat} (h : n < 48) : profileWord st n = st[n] := by
  simp [profileWord, List.getD_eq_getElem?_getD, h]

theorem joinHalves_toNat (low high : Half) : (joinHalves low high).toNat = low.toNat + high.toNat * 65536 := by
  have hlow := low.isLt
  rw [joinHalves, BitVec.toNat_append, ← Nat.shiftLeft_add_eq_or_of_lt hlow, Nat.shiftLeft_eq]
  omega

theorem halfField_lt (h : Half) (lo len : Nat) : halfField h lo len < 2 ^ len := (h.extractLsb' lo len).isLt

/-- An agent field of 5 bits is the agent's number. -/
theorem ofNat_halfField_val (h : Half) (lo : Nat) : (Fin.ofNat 32 (halfField h lo 5)).val = halfField h lo 5 :=
  Nat.mod_eq_of_lt (halfField_lt h lo 5)

theorem policyOf_isSome_iff : ∀ n : Nat, (policyOf n).isSome = true ↔ n ≤ 2
  | 0 => by decide
  | 1 => by decide
  | 2 => by decide
  | n + 3 => by simp [policyOf]

theorem scoreClassOf_isSome_iff : ∀ n : Nat, (scoreClassOf n).isSome = true ↔ n = 1 ∨ n = 2
  | 0 => by decide
  | 1 => by decide
  | 2 => by decide
  | n + 3 => by simp [scoreClassOf]

theorem settingsInRange_iff (h : Half) :
    settingsInRange h = true ↔
      halfField h 0 7 ≤ 100 ∧ 1 ≤ halfField h 7 6 ∧ halfField h 7 6 ≤ 50 ∧ (halfField h 13 2 = 1 ∨ halfField h 13 2 = 2) ∧
        h.getLsbD 15 = false := by
  rw [settingsInRange, Bool.and_eq_true, Bool.and_eq_true, Bool.and_eq_true, Bool.and_eq_true, scoreClassOf_isSome_iff]
  simp [and_assoc]

/-- Where 13.6 places the fields of a settings word, and their ranges (R177). -/
theorem readSettings_spec (h : Half) :
    (readSettings h).threshold = (h.extractLsb' 0 7).toNat ∧ (readSettings h).penalty = (h.extractLsb' 7 6).toNat ∧
      ((h.extractLsb' 13 2).toNat = 1 → (readSettings h).scoreClass = .advisory) ∧
      ((h.extractLsb' 13 2).toNat = 2 → (readSettings h).scoreClass = .barring) := by
  refine ⟨rfl, rfl, fun hc => ?_, fun hc => ?_⟩
  · simp only [readSettings, halfField, hc]
    rfl
  · simp only [readSettings, halfField, hc]
    rfl

theorem unitsInRange_iff (h : Half) : unitsInRange h = true ↔ 1 ≤ h.toNat ∧ h.toNat ≤ 255 := by
  simp [unitsInRange]

/-- The sum of words modulo 65,536 (R177). -/
theorem foldl_add_toNat (ws : List Half) (x : Half) :
    (ws.foldl (· + ·) x).toNat = (x.toNat + (ws.map BitVec.toNat).sum) % 65536 := by
  induction ws generalizing x with
  | nil => simpa using (Nat.mod_eq_of_lt x.isLt).symm
  | cons w ws ih =>
    rw [List.foldl_cons, ih, BitVec.toNat_add, List.map_cons, List.sum_cons]
    omega

theorem profileSum_toNat (st : Vector Half 48) : (profileSum st).toNat = (st.toList.map BitVec.toNat).sum % 65536 := by
  rw [profileSum, foldl_add_toNat]
  exact congrArg (· % 65536) (Nat.zero_add _)

theorem validCount_eq_zero_iff (map : Vector Partition 8) : validCount map = 0 ↔ ∀ i : Fin 8, map[i].valid = false := by
  simp only [validCount, List.countP_eq_zero, Vector.mem_toList_iff, Vector.mem_iff_getElem, Bool.not_eq_true]
  constructor
  · intro h i
    exact h _ ⟨i.val, i.isLt, rfl⟩
  · rintro h _ ⟨i, hi, rfl⟩
    exact h ⟨i, hi⟩

/-! ### The seven tests (R178) -/

theorem State.loadProfile_of_refusal {s : State} {r : ResultCode} (hr : s.resetHeld = false) (h : s.loadRefusal = some r) :
    exec .loadProfile s = .next (s.finish r 0 0) := by
  simp [exec, execLoadProfile, State.unlessReset_of_running hr, State.loadProfile, h, State.conclude]

/-- Test 7 fails exactly when some range-holding lease or some WAITING entry is not admissible under the map (R178). -/
theorem State.mapConflict_iff (s : State) (map : Vector Partition 8) :
    s.mapConflict map = true ↔
      (∃ k l, (s.slot k).state.holding? = some l ∧ admissible map l.owner l.range = false) ∨
        ∃ c e, (s.cell c).state.waiting? = some e ∧ admissible map e.agent e.range = false := by
  rw [← Bool.not_eq_false, State.mapConflict_eq_false_iff]
  simp only [not_and_or, not_forall, exists_prop, Bool.not_eq_true]

/-! ### The statement -/

/-- Where 13.6 places the fields of a partition entry (R177). -/
theorem readPartition_spec (st : Vector Half 48) (e : Nat) :
    let w := profileWord st (1 + 5 * e)
    let p := readPartition st e
    p.valid = w.getLsbD 0 ∧ p.firstAgent.val = (w.extractLsb' 3 5).toNat ∧ p.lastAgent.val = (w.extractLsb' 8 5).toNat ∧
      ((w.extractLsb' 1 2).toNat = 0 → p.policy = .openAccess) ∧ ((w.extractLsb' 1 2).toNat = 1 → p.policy = .readOnly) ∧
      ((w.extractLsb' 1 2).toNat = 2 → p.policy = .closed) ∧
      p.range.first.toNat = (profileWord st (2 + 5 * e)).toNat + (profileWord st (3 + 5 * e)).toNat * 65536 ∧
      p.range.last.toNat = (profileWord st (4 + 5 * e)).toNat + (profileWord st (5 + 5 * e)).toNat * 65536 := by
  have hpolicy (n : Nat) (h : ((profileWord st (1 + 5 * e)).extractLsb' 1 2).toNat = n) :
      (readPartition st e).policy = (policyOf n).getD .closed := h ▸ rfl
  exact ⟨rfl, ofNat_halfField_val _ 3, ofNat_halfField_val _ 8, hpolicy 0, hpolicy 1, hpolicy 2, joinHalves_toNat _ _,
    joinHalves_toNat _ _⟩

/-- The statement's own words for two ranges that do not intersect (R3). -/
theorem GranuleRange.intersects_eq_false_iff (r q : GranuleRange) :
    r.intersects q = false ↔ ¬ (r.first ≤ q.last ∧ q.first ≤ r.last) := by
  rw [← Bool.not_eq_true, GranuleRange.intersects, Bool.and_eq_true, decide_eq_true_iff, decide_eq_true_iff]

/-- Settles O40: the fields and their ranges are read off the equivalences above, and each refusal is the first test of `loadRefusal` that
fails, those before it having passed. -/
theorem loadProfileTests : Obligations.LoadProfileTests := by
  have hword (st : Vector Half 48) (n : Nat) (h : n < 48) : st[n] = profileWord st n := (profileWord_eq st h).symm
  refine ⟨?_, ?_, fun st => ?_, profileSum_toNat, ?_⟩
  · rintro st e w firstLow firstHigh lastLow lastHigh p rfl rfl rfl rfl rfl rfl
    rw [readProfile_map_getElem]
    simp only [Fin.getElem_fin, hword]
    obtain ⟨hvalid, hfirst, hlast, hopen, hread, hclosed, hlow, hhigh⟩ := readPartition_spec st e.val
    refine ⟨hvalid, hfirst, hlast, hopen, hread, hclosed, hlow, hhigh, fun largest => ?_⟩
    rw [partitionInRange_iff, policyOf_isSome_iff]
    rfl
  · rintro st h x hx
    have hx : x = readSettings h := by
      simp only [hword] at hx
      obtain ⟨rfl, rfl⟩ | ⟨rfl, rfl⟩ | ⟨rfl, rfl⟩ := hx <;> rfl
    obtain ⟨hthreshold, hpenalty, hadvisory, hbarring⟩ := readSettings_spec h
    exact hx ▸ ⟨hthreshold, hpenalty, hadvisory, hbarring, settingsInRange_iff h⟩
  · simp only [hword]
    refine ⟨rfl, rfl, rfl, rfl, fun largest => ?_⟩
    rw [profileFieldsInRange_iff, someValidIntersect_toList_eq_false_iff, unitsInRange_iff, unitsInRange_iff]
    simp only [GranuleRange.intersects_eq_false_iff]
    exact and_congr_left fun _ => ⟨fun h e => h e.val e.isLt, fun h e he => h ⟨e, he⟩⟩
  · rintro s p conflict hr rfl hconflict
    rw [← State.mapConflict_iff] at hconflict
    rw [hword]
    have refuse {r : ResultCode} (h : s.loadRefusal = some r) := State.loadProfile_of_refusal hr h
    refine ⟨fun hl => refuse (if_pos hl), fun hl => ?_⟩
    have h1 : s.loadRefusal = _ := if_neg (ne_true_of_eq_false hl)
    refine ⟨fun hs => refuse (h1.trans (if_pos hs)), fun hs => ?_⟩
    have h2 := h1.trans (if_neg hs)
    refine ⟨fun hv => refuse (h2.trans (if_pos hv)), fun hv => ?_⟩
    have h3 := h2.trans (if_neg (not_not_intro hv))
    refine ⟨fun hsum => refuse (h3.trans (if_pos hsum)), fun hsum => ?_⟩
    have h4 := h3.trans (if_neg (not_not_intro hsum))
    refine ⟨fun hf => refuse (h4.trans (if_pos (by rw [hf]; rfl))), fun hf => ?_⟩
    have h5 := h4.trans (if_neg (by rw [hf]; decide))
    have hcount := validCount_eq_zero_iff (readProfile s.staging).map
    refine ⟨fun hnone => refuse (h5.trans (if_pos (hcount.2 hnone))), fun ⟨i, hi⟩ hc => refuse ?_⟩
    have h6 := h5.trans (if_neg fun h0 => Bool.false_ne_true ((hcount.1 h0 i).symm.trans hi))
    exact h6.trans (if_pos (hconflict.1 hc))

end Sys2Proof.Machine
end

section
/-! SUPPORT. The four expiries: what each does to a record whose timer has run out, and that it does nothing otherwise (R18, R20, R40 to
R46, R109, R110). -/

namespace Sys2Proof.Machine

/-! ### The freeing and emptying steps on one occupied record (R32, R96) -/

theorem State.freeSlot_of_ne_free {s : State} {k : SlotNo} (h : (s.slot k).state ≠ .free) :
    s.freeSlot k = { s with slots := s.slots.set k ⟨(s.slot k).generation + 1, .free⟩ } := by
  rw [State.freeSlot, LeaseSlot.freed_of_ne_free h]
  rfl

theorem State.freeReserved_of_reserved {s : State} {k : SlotNo} {l : AgentLease} {c : CellNo} (h : (s.slot k).state = .reserved l c) :
    s.freeReserved k = s.freeSlot k := by
  simp [State.freeReserved, h]

theorem State.emptyCell_of_ne_empty {s : State} {c : CellNo} (h : (s.cell c).state ≠ .empty) :
    s.emptyCell c =
      { s with cells := s.cells.set c ⟨(s.cell c).generation + 1, .empty⟩, order := s.order.filter (· != c) } := by
  rw [State.emptyCell, WaitCell.emptied_of_ne_empty h]

theorem State.readyCell_of_waiting {s : State} {c : CellNo} {e : WaitEntry} {r : Reason} {w : Option Nat}
    (h : (s.cell c).state = .waiting e r w) (o : Ending) :
    s.readyCell c o = s.setCellState c (.ended e o s.collectAmount) := by
  simp [State.readyCell, State.setCellState, WaitCell.readied, h]

/-! ### An expiry whose timer has run out, the Timebase RUNNING -/

theorem execTermExpiry_of_runOut {s : State} {k : SlotNo} {l : AgentLease} (hf : s.frozen = false)
    (h : (s.slot k).state = .held l 0) : execTermExpiry k s = .next (s.termRunsOut k l) := by
  simp [execTermExpiry, h, hf]

theorem execHoldExpiry_of_runOut {s : State} {k : SlotNo} {l : AgentLease} (hf : s.frozen = false)
    (h : (s.slot k).state = .lapsed l 0 ∨ (s.slot k).state = .revoked l 0) :
    execHoldExpiry k s = .next (s.freeSlot k).grantPass := by
  obtain h | h := h <;> simp [execHoldExpiry, h, hf]

theorem execWaitLimitExpiry_of_runOut {s : State} {c : CellNo} {e : WaitEntry} {r : Reason} (hf : s.frozen = false)
    (h : (s.cell c).state = .waiting e r (some 0)) :
    execWaitLimitExpiry c s = .next (s.readyCell c .timedOut).grantPass := by
  simp [execWaitLimitExpiry, h, hf]

theorem execCollectionExpiry_of_granted {s : State} {c : CellNo} {e : WaitEntry} {k : SlotNo} (hf : s.frozen = false)
    (h : (s.cell c).state = .granted e 0 k) : execCollectionExpiry c s = .next (s.abandonGrant c e.agent k) := by
  simp [execCollectionExpiry, h, hf]

theorem execCollectionExpiry_of_ended {s : State} {c : CellNo} {e : WaitEntry} {o : Ending} (hf : s.frozen = false)
    (h : (s.cell c).state = .ended e o 0) : execCollectionExpiry c s = .next (s.emptyCell c) := by
  simp [execCollectionExpiry, h, hf]

/-! ### No expiry while the timer has an amount left, or where there is no such timer (R18) -/

theorem execTermExpiry_of_notDue {s : State} {k : SlotNo} (h : ∀ l, (s.slot k).state ≠ .held l 0) :
    execTermExpiry k s = .next s := by
  unfold execTermExpiry
  split
  · next l hl => exact absurd hl (h l)
  · rfl

theorem execHoldExpiry_of_notDue {s : State} {k : SlotNo}
    (h : ∀ l, (s.slot k).state ≠ .lapsed l 0 ∧ (s.slot k).state ≠ .revoked l 0) : execHoldExpiry k s = .next s := by
  unfold execHoldExpiry
  split
  · next l hl => exact absurd hl (h l).1
  · next l hl => exact absurd hl (h l).2
  · rfl

theorem execWaitLimitExpiry_of_notDue {s : State} {c : CellNo} (h : ∀ e r, (s.cell c).state ≠ .waiting e r (some 0)) :
    execWaitLimitExpiry c s = .next s := by
  unfold execWaitLimitExpiry
  split
  · next e r hw => exact absurd hw (h e r)
  · rfl

theorem execCollectionExpiry_of_notDue {s : State} {c : CellNo} (hg : ∀ e k, (s.cell c).state ≠ .granted e 0 k)
    (he : ∀ e o, (s.cell c).state ≠ .ended e o 0) : execCollectionExpiry c s = .next s := by
  unfold execCollectionExpiry
  split
  · next e k h => exact absurd h (hg e k)
  · next e o h => exact absurd h (he e o)
  · rfl

/-! ### FREEZE and THAW (R20, R21) -/

theorem execTermExpiry_of_frozen {s : State} (k : SlotNo) (h : s.frozen = true) : execTermExpiry k s = .next s := by
  unfold execTermExpiry
  split <;> simp [h]

theorem execHoldExpiry_of_frozen {s : State} (k : SlotNo) (h : s.frozen = true) : execHoldExpiry k s = .next s := by
  unfold execHoldExpiry
  split <;> simp [h]

theorem execWaitLimitExpiry_of_frozen {s : State} (c : CellNo) (h : s.frozen = true) : execWaitLimitExpiry c s = .next s := by
  unfold execWaitLimitExpiry
  split <;> simp [h]

theorem execCollectionExpiry_of_frozen {s : State} (c : CellNo) (h : s.frozen = true) :
    execCollectionExpiry c s = .next s := by
  unfold execCollectionExpiry
  split <;> simp [h]

/-- Settles O24. -/
theorem freezeStopsExpiries : Obligations.FreezeStopsExpiries := by
  refine ⟨fun s hr => ⟨?_, ?_⟩, fun s hf => ⟨fun k => ?_, fun c => ?_⟩⟩
  · exact congrArg Host.Outcome.next (State.unlessReset_of_running hr _)
  · exact congrArg Host.Outcome.next (State.unlessReset_of_running hr _)
  · exact ⟨execTermExpiry_of_frozen k hf, execHoldExpiry_of_frozen k hf⟩
  · exact ⟨execWaitLimitExpiry_of_frozen c hf, execCollectionExpiry_of_frozen c hf⟩

/-! ### The term expiry (R40 to R42) -/

theorem State.matchesLease_iff (s : State) (l : AgentLease) :
    s.sweep.matchesLease l = true ↔ s.SweepMatches l.owner l.range := SweepRecord.fallsOn_iff s l.owner l.range

theorem State.renewsItself_iff (s : State) (l : AgentLease) :
    s.renewsItself l = true ↔ s.RenewsButForSweep l ∧ ¬ s.SweepMatches l.owner l.range := by
  rw [State.renewsItself, Bool.and_eq_true, State.renewsButForSweep_iff, Bool.not_eq_true', ← Bool.not_eq_true,
    State.matchesLease_iff]

/-- Settles O21: the five conditions are the model's test of a renewal. -/
theorem termExpiryRenews : Obligations.TermExpiryRenews := by
  intro s k l hf hslot hrenews hsweep
  have hrun : s.termRunsOut k l = s.renewLease k l := if_pos ((s.renewsItself_iff l).2 ⟨hrenews, hsweep⟩)
  change execTermExpiry k s = _
  rw [execTermExpiry_of_runOut hf hslot, hrun]
  rfl

theorem State.lapse_of_charged {s : State} (k : SlotNo) {l : AgentLease} (h : ¬ s.RenewsButForSweep l) :
    s.lapse k l = ((s.setSlotState k (.lapsed l s.holdAmount)).charge l.owner .overstay).raise .leaseLapsed k.val := by
  rw [← State.renewsButForSweep_iff, Bool.not_eq_true] at h
  simp [State.lapse, State.chargeLapse, h]

/-- Where the sweep condition alone failed, OVERSTAY is not charged (R42). -/
theorem State.lapse_of_uncharged {s : State} (k : SlotNo) {l : AgentLease} (h : s.RenewsButForSweep l) :
    s.lapse k l = (s.setSlotState k (.lapsed l s.holdAmount)).raise .leaseLapsed k.val := by
  rw [← State.renewsButForSweep_iff] at h
  simp [State.lapse, State.chargeLapse, h]

@[simp] theorem State.agent_setSlotState (s : State) (k : SlotNo) (x : SlotState) (a : AgentNo) :
    (s.setSlotState k x).agent a = s.agent a := rfl

@[simp] theorem State.standing_setSlotState (s : State) (k : SlotNo) (x : SlotState) (a : AgentNo) :
    (s.setSlotState k x).standing a = s.standing a := rfl

@[simp] theorem State.standing_raise (s : State) (x : Source) (d : Nat) (a : AgentNo) :
    (s.raise x d).standing a = s.standing a := rfl

theorem State.standing_charge (s : State) (a b : AgentNo) (n : ScoreName) :
    (s.charge a n).standing b = (s.setAgent a ((s.agent a).charged n)).standing b :=
  State.standing_standingChanged _ a b _

/-- The OVERSTAY charge is the one change of a lapse to the cells, so an entry leaves WAITING exactly when the charge bars an agent that
waits (R98, R130). -/
theorem State.someLeftWaiting_lapse_iff {s : State} (k : SlotNo) {l : AgentLease} (h : ¬ s.RenewsButForSweep l) :
    someLeftWaiting s (s.lapse k l) = true ↔ s.BarsWaiter (s.lapse k l) l.owner := by
  rw [State.lapse_of_charged k h]
  refine someLeftWaiting_iff_barsWaiter s
    ((s.setSlotState k (.lapsed l s.holdAmount)).setAgent l.owner ((s.agent l.owner).charged .overstay)) _ l.owner rfl ?_ ?_
  · rw [State.raise_cells, State.charge, State.updateConduct, State.agent_setSlotState, State.standing_setSlotState]
  · rw [State.standing_raise, State.standing_charge, State.agent_setSlotState]

/-- A change that leaves the cells alone calls for no pass (R98). -/
theorem State.passIfReadied_of_cells_eq {s t : State} (h : t.cells = s.cells) : s.passIfReadied t = t := by
  refine if_neg fun hleft => ?_
  simp only [someLeftWaiting, State.cell_congr h, List.any_eq_true, Bool.and_eq_true, Option.isNone_iff_eq_none] at hleft
  obtain ⟨c, _, hsome, hnone⟩ := hleft
  simp [hnone] at hsome

theorem exec_termExpiry_of_lapse {s : State} {k : SlotNo} {l : AgentLease} (hf : s.frozen = false)
    (hslot : (s.slot k).state = .held l 0) (h : s.RenewsButForSweep l → s.SweepMatches l.owner l.range) :
    exec (.termExpiry k) s = .next (s.passIfReadied (s.lapse k l)) := by
  have hrun : s.termRunsOut k l = s.passIfReadied (s.lapse k l) :=
    if_neg fun hrenews => ((s.renewsItself_iff l).1 hrenews).2 (h ((s.renewsItself_iff l).1 hrenews).1)
  exact (execTermExpiry_of_runOut hf hslot).trans (congrArg _ hrun)

/-- Settles O22, by whether the sweep condition alone failed, and then by whether the charge bars an agent that waits. -/
theorem termExpiryLapses : Obligations.TermExpiryLapses := by
  rintro s k l u v hf hslot rfl rfl
  refine ⟨fun hrenews hsweep => ?_, fun hrenews hbars => ?_, fun hrenews hbars => ?_⟩
  · rw [exec_termExpiry_of_lapse hf hslot fun _ => hsweep]
    have hcells : (s.lapse k l).cells = s.cells := by rw [State.lapse_of_uncharged k hrenews]; rfl
    rw [State.passIfReadied_of_cells_eq hcells, State.lapse_of_uncharged k hrenews]
    rfl
  · rw [exec_termExpiry_of_lapse hf hslot fun h => absurd h hrenews]
    have hpass : s.passIfReadied (s.lapse k l) = s.lapse k l :=
      if_neg fun h => hbars (State.lapse_of_charged k hrenews ▸ (State.someLeftWaiting_lapse_iff k hrenews).1 h)
    rw [hpass, State.lapse_of_charged k hrenews]
    rfl
  · rw [exec_termExpiry_of_lapse hf hslot fun h => absurd h hrenews]
    have hpass : s.passIfReadied (s.lapse k l) = (s.lapse k l).grantPass :=
      if_pos ((State.someLeftWaiting_lapse_iff k hrenews).2 (State.lapse_of_charged k hrenews ▸ hbars))
    rw [hpass, State.lapse_of_charged k hrenews]
    rfl

/-! ### The hold, wait-limit and collection expiries (R46, R109, R110) -/

/-- Settles O23, one expiry after the other. -/
theorem otherExpiries : Obligations.OtherExpiries := by
  refine ⟨fun s hf => ⟨fun k l h => ?_, fun c e r h => ?_, ?_⟩,
    fun s => ⟨fun k h => ?_, fun k h => ?_, fun c h => ?_, fun c hg he => ?_⟩⟩
  · have hfree : (s.slot k).state ≠ .free := by
      obtain h | h := h <;> simp [h]
    exact (execHoldExpiry_of_runOut hf h).trans (by rw [State.freeSlot_of_ne_free hfree])
  · exact (execWaitLimitExpiry_of_runOut hf h).trans (by rw [State.readyCell_of_waiting h]; rfl)
  · rintro c u rfl
    refine ⟨fun e k l h hpair => ?_, fun e o h => ?_⟩
    · refine (execCollectionExpiry_of_granted hf h).trans ?_
      have hfree : (s.slot k).state ≠ .free := by simp [hpair]
      have hempty : ((s.freeSlot k).cell c).state ≠ .empty := fun h0 => nomatch h.symm.trans h0
      rw [State.abandonGrant, State.freeReserved_of_reserved hpair, State.emptyCell_of_ne_empty hempty,
        State.freeSlot_of_ne_free hfree]
      rfl
    · exact (execCollectionExpiry_of_ended hf h).trans (by rw [State.emptyCell_of_ne_empty (by simp [h])])
  · exact execTermExpiry_of_notDue h
  · exact execHoldExpiry_of_notDue h
  · exact execWaitLimitExpiry_of_notDue h
  · exact execCollectionExpiry_of_notDue hg he

end Sys2Proof.Machine
end

section
/-! SUPPORT. The idle step: the microsecond, the expiries that come due in it, and the lookup held back (R16 to R22, R64, R188). -/

namespace Sys2Proof.Machine

/-! ### The microsecond (log 7) -/

theorem State.elapseTenure_frame (s : State) : s.elapseTenure = { s with tenure := s.elapseTenure.tenure } := by
  unfold State.elapseTenure
  split <;> rfl

/-- The microsecond writes slots, cells, the tenure and the queue and nothing else. -/
theorem State.passMicrosecond_frame (s : State) :
    s.passMicrosecond =
      { s with
        slots := s.passMicrosecond.slots, cells := s.passMicrosecond.cells, tenure := s.passMicrosecond.tenure
        pending := s.passMicrosecond.pending } := by
  unfold State.passMicrosecond
  rw [State.elapseTenure_frame]
  split <;> rfl

theorem State.passMicrosecond_tables (s : State) :
    s.passMicrosecond.slots = (if s.frozen then s else s.elapseTimers (unitStep s.unitCode)).slots ∧
      s.passMicrosecond.cells = (if s.frozen then s else s.elapseTimers (unitStep s.unitCode)).cells := by
  unfold State.passMicrosecond
  rw [State.elapseTenure_frame]
  exact ⟨rfl, rfl⟩

/-- In FROZEN no timer moves (R20). -/
theorem State.passMicrosecond_of_frozen {s : State} (h : s.frozen = true) :
    s.passMicrosecond.slots = s.slots ∧ s.passMicrosecond.cells = s.cells := by
  simpa [h] using s.passMicrosecond_tables

theorem State.slot_passMicrosecond {s : State} (h : s.frozen = false) (k : SlotNo) :
    s.passMicrosecond.slot k = ⟨(s.slot k).generation, (s.slot k).state.elapse (unitStep s.unitCode)⟩ := by
  have hslots : s.passMicrosecond.slots = (s.elapseTimers (unitStep s.unitCode)).slots := by
    simpa [h] using s.passMicrosecond_tables.1
  rw [State.slot_congr hslots]
  simp [State.slot, State.elapseTimers]

theorem State.cell_passMicrosecond {s : State} (h : s.frozen = false) (c : CellNo) :
    s.passMicrosecond.cell c = ⟨(s.cell c).generation, (s.cell c).state.elapse (unitStep s.unitCode)⟩ := by
  have hcells : s.passMicrosecond.cells = (s.elapseTimers (unitStep s.unitCode)).cells := by
    simpa [h] using s.passMicrosecond_tables.2
  rw [State.cell_congr hcells]
  simp [State.cell, State.elapseTimers]

/-- The units of R16, in thousandths of a unit a microsecond. -/
theorem unitStep_of_code {code : BitVec 2} {d : Nat}
    (h : code = 0 ∧ d = 1000 ∨ code = 1 ∧ d = 100 ∨ code = 2 ∧ d = 10 ∨ code = 3 ∧ d = 1) : unitStep code = d := by
  obtain ⟨rfl, rfl⟩ | ⟨rfl, rfl⟩ | ⟨rfl, rfl⟩ | ⟨rfl, rfl⟩ := h <;> rfl

theorem State.elapseTenure_of_awaiting {s : State} {a : AgentNo} {n : Nat} (h : s.tenure = some ⟨a, .awaitingFirst n⟩) :
    s.elapseTenure = { s with tenure := some ⟨a, .awaitingFirst (n - 1)⟩ } := by
  simp [State.elapseTenure, h]

theorem State.elapseTenure_of_not {s : State} (h : ∀ a n, s.tenure ≠ some ⟨a, .awaitingFirst n⟩) : s.elapseTenure = s := by
  unfold State.elapseTenure
  split
  · next a n ht => exact absurd ht (h a n)
  · rfl

/-- The tenure limit falls whatever the Timebase state (R22, R64). -/
theorem State.tenure_passMicrosecond_of_awaiting {s : State} {a : AgentNo} {n : Nat}
    (h : s.tenure = some ⟨a, .awaitingFirst n⟩) : s.passMicrosecond.tenure = some ⟨a, .awaitingFirst (n - 1)⟩ := by
  have ht : (if s.frozen then s else s.elapseTimers (unitStep s.unitCode)).tenure = some ⟨a, .awaitingFirst n⟩ := by
    split <;> exact h
  rw [State.passMicrosecond, State.elapseTenure_of_awaiting ht]

theorem State.tenure_passMicrosecond_of_not {s : State} (h : ∀ a n, s.tenure ≠ some ⟨a, .awaitingFirst n⟩) :
    s.passMicrosecond.tenure = s.tenure := by
  have ht : (if s.frozen then s else s.elapseTimers (unitStep s.unitCode)).tenure = s.tenure := by split <;> rfl
  rw [State.passMicrosecond, State.elapseTenure_of_not (ht ▸ h)]
  exact ht

/-! ### The expiries that come due (R18, R64) -/

theorem slotDue_eq_some_iff (k : SlotNo) (x : SlotState) (c : Instr) :
    slotDue k x = some c ↔
      (∃ l, c = .termExpiry k ∧ x = .held l 0) ∨ ∃ l, c = .holdExpiry k ∧ (x = .lapsed l 0 ∨ x = .revoked l 0) := by
  unfold slotDue
  split <;> simp_all [eq_comm]

theorem cellDue_eq_some_iff (d : CellNo) (x : CellState) (c : Instr) :
    cellDue d x = some c ↔
      (∃ e r, c = .waitLimitExpiry d ∧ x = .waiting e r (some 0)) ∨
        ∃ e, c = .collectionExpiry d ∧ ((∃ k, x = .granted e 0 k) ∨ ∃ o, x = .ended e o 0) := by
  unfold cellDue
  split <;> simp_all [eq_comm]

theorem mem_tenureDue_iff (t : Option Tenure) (c : Instr) :
    c ∈ tenureDue t ↔ c = .tenureLimitExpiry ∧ ∃ a, t = some ⟨a, .awaitingFirst 0⟩ := by
  unfold tenureDue
  split <;> simp_all

theorem State.mem_dueExpiries_iff (s : State) (c : Instr) :
    c ∈ s.dueExpiries ↔
      (s.frozen = false ∧
        ((∃ k, slotDue k (s.slot k).state = some c) ∨ ∃ d, cellDue d (s.cell d).state = some c)) ∨
      c ∈ tenureDue s.tenure := by
  cases h : s.frozen <;> simp [State.dueExpiries, h, or_assoc]

/-- The microsecond queues the expiries due when it has passed (log 8). -/
theorem State.pending_passMicrosecond (s : State) : s.passMicrosecond.pending = s.passMicrosecond.dueExpiries := rfl

/-! ### The lookup held back (R126, R188; log 10) -/

theorem State.takePresented_frame (s : State) :
    s.takePresented =
      { s with
        ckAnswer := s.takePresented.ckAnswer, charges := s.takePresented.charges, presented := s.takePresented.presented } := by
  unfold State.takePresented
  split
  · rfl
  · split_ifs <;> rfl

/-- The check port writes its own pins and fields and nothing else. -/
theorem State.pollCheckPort_frame (s : State) :
    s.pollCheckPort =
      { s with
        ckAnswer := s.pollCheckPort.ckAnswer, charges := s.pollCheckPort.charges, presented := s.pollCheckPort.presented
        heldLookups := s.pollCheckPort.heldLookups } := by
  unfold State.pollCheckPort
  split
  · rfl
  · unfold State.presentNext
    split
    · rw [State.takePresented_frame]
    · rfl

theorem State.pollCheckPort_resetHeld (s : State) : s.pollCheckPort.resetHeld = s.resetHeld := by
  rw [State.pollCheckPort_frame]

theorem State.pollCheckPort_frozen (s : State) : s.pollCheckPort.frozen = s.frozen := by
  rw [State.pollCheckPort_frame]

theorem State.pollCheckPort_unitCode (s : State) : s.pollCheckPort.unitCode = s.unitCode := by
  rw [State.pollCheckPort_frame]

theorem State.pollCheckPort_tenure (s : State) : s.pollCheckPort.tenure = s.tenure := by
  rw [State.pollCheckPort_frame]

theorem State.pollCheckPort_of_noRise {s : State} (h : s.presented ≠ none ∨ s.heldLookups = []) : s.pollCheckPort = s := by
  rw [State.pollCheckPort_of_noAnswer (h.imp_right .inl), State.presentNext_of_noRise h]

theorem State.pollCheckPort_of_rise {s : State} {l : Lookup} {more : List Lookup} (hp : s.presented = none)
    (h : s.heldLookups = l :: more) (ha : s.ckAnswer = none) :
    s.pollCheckPort = State.takePresented { s with presented := some l, heldLookups := more, ckAnswer := none } := by
  rw [State.pollCheckPort_of_noAnswer (.inr (.inr ha)), State.presentNext_of_rise hp h]

/-- A lookup reads nothing of the check port (R139). -/
theorem State.decideAccess_presented (s : State) (l : Lookup) (more : List Lookup) :
    State.decideAccess { s with presented := some l, heldLookups := more, ckAnswer := none } l.agent (s.granuleOf l.addr) l.kind =
      s.decideAccess l.agent (s.granuleOf l.addr) l.kind := rfl

theorem State.pollCheckPort_of_room {s : State} {l : Lookup} {more : List Lookup} (hr : s.resetHeld = false)
    (hp : s.presented = none) (h : s.heldLookups = l :: more) (ha : s.ckAnswer = none) (hroom : s.charges.length < 8) :
    s.pollCheckPort =
      State.withLookupTaken { s with heldLookups := more } l (s.decideAccess l.agent (s.granuleOf l.addr) l.kind) := by
  rw [State.pollCheckPort_of_rise hp h ha, ← s.decideAccess_presented l more]
  exact State.takePresented_of_room hr hroom rfl

theorem State.pollCheckPort_of_full {s : State} {l : Lookup} {more : List Lookup} (hr : s.resetHeld = false)
    (hp : s.presented = none) (h : s.heldLookups = l :: more) (ha : s.ckAnswer = none) (hfull : 8 ≤ s.charges.length) :
    s.pollCheckPort = { s with presented := some l, heldLookups := more, ckAnswer := none } := by
  rw [State.pollCheckPort_of_rise hp h ha]
  exact State.takePresented_of_full hr hfull

/-! ### The idle step -/

theorem step_of_idle_reset {s : State} (h : s.pending = []) (hr : s.resetHeld = true) : step s = .next s.pollCheckPort := by
  have hpoll : s.pollCheckPort.resetHeld = true := s.pollCheckPort_resetHeld.trans hr
  simp only [step, h, State.tick, State.unlessReset_of_held hpoll]

theorem step_of_idle_running {s : State} (h : s.pending = []) (hr : s.resetHeld = false) :
    step s = .next s.pollCheckPort.passMicrosecond := by
  have hpoll : s.pollCheckPort.resetHeld = false := s.pollCheckPort_resetHeld.trans hr
  simp only [step, h, State.tick, State.unlessReset_of_running hpoll]

/-- The frame of an idle step: the microsecond's and the check port's together. -/
theorem State.passMicrosecond_pollCheckPort_frame (s : State) {p t : State} (hp : p = s.pollCheckPort) (ht : t = p.passMicrosecond) :
    t = { s with
      slots := t.slots, cells := t.cells, tenure := t.tenure, pending := t.pending, ckAnswer := t.ckAnswer
      charges := t.charges, presented := t.presented, heldLookups := t.heldLookups } := by
  have hframe := p.passMicrosecond_frame
  have hpoll := s.pollCheckPort_frame
  rw [← ht] at hframe
  rw [← hp] at hpoll
  rw [hframe, hpoll]

/-- The microsecond leaves the check port alone. -/
theorem State.checkPort_passMicrosecond (p : State) :
    p.passMicrosecond.ckAnswer = p.ckAnswer ∧ p.passMicrosecond.charges = p.charges ∧
      p.passMicrosecond.presented = p.presented ∧ p.passMicrosecond.heldLookups = p.heldLookups := by
  rw [State.passMicrosecond_frame]
  exact ⟨rfl, rfl, rfl, rfl⟩

/-- Settles O3: the check port goes first, the microsecond after it, and neither writes what the other reads. -/
theorem idleStepPassesOneMicrosecond : Obligations.IdleStepPassesOneMicrosecond := by
  intro s hempty
  refine ⟨fun hr => ⟨fun h => ?_, fun hp hl ha => ?_, fun l more hp hl ha => ?_⟩, fun hr => ?_⟩
  · rw [step_of_idle_reset hempty hr, State.pollCheckPort_of_noRise h]
  · obtain ⟨x, hx⟩ := Option.ne_none_iff_exists'.1 ha
    rw [step_of_idle_reset hempty hr, State.pollCheckPort_of_answer hp hl hx]
  · rw [step_of_idle_reset hempty hr, State.pollCheckPort_of_rise hp hl ha, hp]
    exact congrArg Host.Outcome.next (State.takePresented_of_reset hr rfl)
  · have hsame := s.pollCheckPort_sameTables
    have hfrozen := s.pollCheckPort_frozen
    have htenure := s.pollCheckPort_tenure
    have hframe := s.passMicrosecond_pollCheckPort_frame rfl rfl
    obtain ⟨hanswer, hcharges, hpresented, hheld⟩ := s.pollCheckPort.checkPort_passMicrosecond
    refine ⟨_, step_of_idle_running hempty hr, hframe, fun hf => ?_, fun hf d hd => ⟨fun k => ?_, fun c => ?_⟩, fun a n ht => ?_,
      fun ht => ?_, fun c => ?_, fun h => ?_, fun hp hl ha => ?_, fun l more x hp hl ha hx => ?_⟩
    · obtain ⟨hslots, hcells⟩ := State.passMicrosecond_of_frozen (hfrozen.trans hf)
      exact ⟨hslots.trans hsame.slots, hcells.trans hsame.cells⟩
    · rw [State.slot_passMicrosecond (hfrozen.trans hf), State.slot_sameTables hsame, State.pollCheckPort_unitCode, unitStep_of_code hd]
    · rw [State.cell_passMicrosecond (hfrozen.trans hf), State.cell_sameTables hsame, State.pollCheckPort_unitCode, unitStep_of_code hd]
    · exact State.tenure_passMicrosecond_of_awaiting (htenure.trans ht)
    · exact (State.tenure_passMicrosecond_of_not (htenure ▸ ht)).trans htenure
    · have hstill : s.pollCheckPort.passMicrosecond.frozen = s.frozen := by rw [hframe]
      rw [State.pending_passMicrosecond, State.mem_dueExpiries_iff, mem_tenureDue_iff, hstill]
      simp only [slotDue_eq_some_iff, cellDue_eq_some_iff, exists_or, or_assoc]
    · rw [State.pollCheckPort_of_noRise h] at hanswer hcharges hpresented hheld ⊢
      exact ⟨hanswer, hcharges, hpresented, hheld⟩
    · obtain ⟨y, hy⟩ := Option.ne_none_iff_exists'.1 ha
      rw [State.pollCheckPort_of_answer hp hl hy] at hanswer hcharges hpresented hheld ⊢
      exact ⟨hanswer, hcharges, hpresented.trans hp, hheld⟩
    · rw [hanswer, hcharges, hpresented, hheld, hx]
      refine ⟨?_, fun hroom => ?_, fun hfull => ?_⟩
      · rw [State.pollCheckPort_of_rise hp hl ha, State.takePresented_frame]
      · rw [State.pollCheckPort_of_room hr hp hl ha hroom]
        exact ⟨rfl, rfl, rfl⟩
      · rw [State.pollCheckPort_of_full hr hp hl ha hfull]
        exact ⟨rfl, rfl, rfl⟩

end Sys2Proof.Machine
end

section
/-! SUPPORT. The images of 13.5: a word of an image is the sum of its fields at their places, and the mask says which fields the record has
(R19, R27, R91, R94, R118, R148, R168). -/

namespace Sys2Proof.Machine

/-! ### Fields in words -/

/-- The field's value, where it has one, fits its bits. -/
def ImageField.Fits (f : ImageField) : Prop := ∀ v ∈ f.value, v < 2 ^ f.len

/-- The fields lie one above the other from bit `b` up, and inside a word. -/
def ascending : Nat → List ImageField → Bool
  | b, [] => decide (b ≤ 32)
  | b, f :: fs => decide (b ≤ f.lo) && ascending (f.lo + f.len) fs

/-- What the fields add up to, each at its place, an absent one as 0. -/
def fieldSum : List ImageField → Nat
  | [] => 0
  | f :: fs => f.value.getD 0 * 2 ^ f.lo + fieldSum fs

theorem ImageField.Fits.getD_lt {f : ImageField} (h : f.Fits) : f.value.getD 0 < 2 ^ f.len := by
  cases hv : f.value with
  | none => simp
  | some v => exact h v hv

theorem le_of_ascending {b : Nat} {fs : List ImageField} (h : ascending b fs = true) : b ≤ 32 := by
  induction fs generalizing b with
  | nil => exact of_decide_eq_true h
  | cons f fs ih =>
    rw [ascending, Bool.and_eq_true, decide_eq_true_iff] at h
    have := ih h.2
    omega

theorem mul_two_pow_lt {v lo len : Nat} (hv : v < 2 ^ len) : v * 2 ^ lo < 2 ^ (lo + len) := by
  rw [Nat.add_comm, Nat.pow_add]
  exact Nat.mul_lt_mul_of_pos_right hv (Nat.two_pow_pos lo)

theorem placeField_toNat {v lo len : Nat} (hv : v < 2 ^ len) (h : lo + len ≤ 32) : (placeField v lo len).toNat = v * 2 ^ lo := by
  have hlt : v * 2 ^ lo < 2 ^ 32 := (mul_two_pow_lt hv).trans_le (Nat.pow_le_pow_right (by decide) h)
  rw [placeField, BitVec.toNat_ofNat, Nat.mod_eq_of_lt hv, Nat.mod_eq_of_lt hlt]

/-- A field placed above all the bits of a word adds to it. -/
theorem or_placeField_toNat {w : Word} {v lo len : Nat} (hw : w.toNat < 2 ^ lo) (hv : v < 2 ^ len) (h : lo + len ≤ 32) :
    (w ||| placeField v lo len).toNat = w.toNat + v * 2 ^ lo := by
  rw [BitVec.toNat_or, placeField_toNat hv h, Nat.or_comm, Nat.mul_comm, ← Nat.two_pow_add_eq_or_of_lt hw, Nat.add_comm]

theorem foldl_placed_toNat (fs : List ImageField) (w : Word) (b : Nat) (hw : w.toNat < 2 ^ b) (hfits : ∀ f ∈ fs, f.Fits)
    (h : ascending b fs = true) : (fs.foldl (fun w f => w ||| f.placed) w).toNat = w.toNat + fieldSum fs := by
  induction fs generalizing w b with
  | nil => rfl
  | cons f fs ih =>
    rw [ascending, Bool.and_eq_true, decide_eq_true_iff] at h
    obtain ⟨hb, hrest⟩ := h
    rw [List.forall_mem_cons] at hfits
    obtain ⟨hf, hfs⟩ := hfits
    have hlow : w.toNat < 2 ^ f.lo := hw.trans_le (Nat.pow_le_pow_right (by decide) hb)
    have hor : (w ||| f.placed).toNat = w.toNat + f.value.getD 0 * 2 ^ f.lo :=
      or_placeField_toNat hlow hf.getD_lt (le_of_ascending hrest)
    have hnext : (w ||| f.placed).toNat < 2 ^ (f.lo + f.len) := by
      rw [BitVec.toNat_or]
      refine Nat.or_lt_two_pow (hlow.trans_le (Nat.pow_le_pow_right (by decide) (Nat.le_add_right _ _))) ?_
      exact (placeField_toNat hf.getD_lt (le_of_ascending hrest)).trans_lt (mul_two_pow_lt hf.getD_lt)
    rw [List.foldl_cons, ih _ _ hnext hfs hrest, hor, fieldSum, Nat.add_assoc]

/-! ### The words of an image -/

theorem imageTag_toNat {kind number : Nat} (hk : kind < 256) (hn : number < 256) :
    (imageTag kind number).toNat = kind * 16777216 + number := by
  have hlow : (placeField number 0 8).toNat = number := by rw [placeField_toNat hn (by decide), Nat.pow_zero, Nat.mul_one]
  rw [imageTag, BitVec.or_comm, or_placeField_toNat (by omega) hk (by decide), hlow]
  omega

theorem imageOf_tags (kind number : Nat) (fs : List ImageField) :
    (imageOf kind number fs)[0] = imageTag kind number ∧ (imageOf kind number fs)[11] = imageTag kind number := by
  simp [imageOf]

theorem imageOf_mask (kind number : Nat) (fs : List ImageField) : (imageOf kind number fs)[1] = presenceMask fs := by
  simp [imageOf]

theorem imageOf_word (kind number : Nat) (fs : List ImageField) (i : Nat) (h2 : 2 ≤ i) (h10 : i ≤ 10) :
    (imageOf kind number fs)[i] = (fs.filter fun f => f.word == i).foldl (fun w f => w ||| f.placed) 0 := by
  have hne : ¬ (i = 0 ∨ i = 11) := by omega
  have hne1 : i ≠ 1 := by omega
  simp [imageOf, hne, hne1, List.foldl_filter]

theorem imageOf_word_toNat (kind number : Nat) {fs : List ImageField} (hfits : ∀ f ∈ fs, f.Fits) (i : Nat) (h2 : 2 ≤ i)
    (h10 : i ≤ 10) (h : ascending 0 (fs.filter fun f => f.word == i) = true) :
    (imageOf kind number fs)[i].toNat = fieldSum (fs.filter fun f => f.word == i) := by
  rw [imageOf_word kind number fs i h2 h10, foldl_placed_toNat _ _ 0 (by decide) (fun f hf => hfits f (List.mem_of_mem_filter hf)) h]
  exact Nat.zero_add _

/-- A word no field lies in reads 0 (13.5). -/
theorem imageOf_unused (kind number : Nat) {fs : List ImageField} (i : Nat) (h2 : 2 ≤ i) (h10 : i ≤ 10)
    (h : (fs.filter fun f => f.word == i) = []) : (imageOf kind number fs)[i] = 0 := by
  rw [imageOf_word kind number fs i h2 h10, h]
  rfl

/-! ### The presence mask (log 15) -/

/-- The mask of a row of fields, given which of them are present. -/
def maskOf (present : List Bool) : Word :=
  present.zipIdx.foldl (fun w p => if p.1 then w ||| BitVec.twoPow 32 p.2 else w) 0

theorem presenceMask_eq (fs : List ImageField) : presenceMask fs = maskOf (fs.map (·.value.isSome)) := by
  rw [maskOf, List.zipIdx_map, List.foldl_map]
  rfl

theorem presenceMask_of_present {fs : List ImageField} (present : List Bool) (m : Word)
    (h : fs.map (·.value.isSome) = present) (hm : maskOf present = m) : presenceMask fs = m := by
  rw [presenceMask_eq, h, hm]

end Sys2Proof.Machine
end

section
/-! SUPPORT. The fields of the four images fit their bits, and what the words of each image come to (R27, R91, R118, R148, 13.5). -/

namespace Sys2Proof.Machine

/-! ### Codes and amounts (13.2, R19) -/

theorem LeaseMode.code_eq (m : LeaseMode) : m.claimMode.code = if m = .exclusive then 1 else 0 := by
  cases m <;> rfl

theorem LeaseMode.code_lt (m : LeaseMode) : m.claimMode.code < 2 := by
  cases m <;> decide

theorem ClaimMode.code_lt (m : ClaimMode) : m.code < 4 := by
  cases m <;> decide

theorem Owner.code_lt (o : Owner) : o.code < 64 := by
  cases o with
  | agent a => exact a.isLt.trans (by decide)
  | management => decide

theorem SlotState.code_lt (x : SlotState) : x.code < 8 := by
  cases x <;> simp [SlotState.code]

theorem CellState.code_lt (x : CellState) : x.code < 4 := by
  cases x <;> simp [CellState.code]

theorem Reason.code_lt (r : Reason) : r.code < 4 := by
  cases r <;> decide

theorem CellState.outcome_lt (x : CellState) : ∀ o ∈ x.outcome?, o < 8 := by
  cases x with
  | ended e o left => cases o <;> simp [CellState.outcome?, Ending.code]
  | _ => simp [CellState.outcome?]

theorem PortState.code_lt (p : PortState) : p.code < 4 := by
  cases p <;> decide

theorem ArbiterClass.code_lt (c : ArbiterClass) : c.code < 4 := by
  cases c <;> decide

theorem Standing.code_lt (x : Standing) : x.code < 4 := by
  cases x <;> decide

theorem ScoreClass.code_lt (c : ScoreClass) : c.code < 4 := by
  cases c <;> decide

theorem SweepStatus.code_lt (x : SweepStatus) : x.code < 8 := by
  cases x <;> decide

theorem SweepKind.code_lt (k : SweepKind) : k.code < 4 := by
  cases k <;> simp [SweepKind.code]

theorem boolCode_lt (b : Bool) : boolCode b < 2 := by
  cases b <;> decide

/-- An amount of at most `n` units is shown as at most `n`. -/
theorem shownUnits_lt {r n : Nat} (hn : 1 ≤ n) (h : r ≤ n * 1000) : shownUnits r < n + 1 := by
  rw [shownUnits]
  omega

/-! ### The lease image -/

theorem SlotState.FieldsInRange.remaining_le {x : SlotState} (h : x.FieldsInRange) : ∀ r ∈ x.remaining?, r ≤ 65535 * 1000 :=
  fun r hr => (h.2 r hr).trans (by cases x <;> simp [SlotState.timerBound])

theorem leaseFields_fit {x : LeaseSlot} (h : x.state.FieldsInRange) : ∀ f ∈ leaseFields x, f.Fits := by
  have hremaining (r : Nat) (hr : r ∈ x.state.remaining?) := shownUnits_lt (by decide) (h.remaining_le r hr)
  simp only [leaseFields, List.forall_mem_cons, ImageField.Fits, Option.forall_mem_map]
  refine ⟨?_, ?_, fun m _ => m.code_lt, fun o _ => o.code_lt, fun r _ => r.first.isLt, fun r _ => r.last.isLt,
    fun l _ => l.term.isLt, hremaining, fun l _ => boolCode_lt l.auto, fun l _ => l.allowance.isLt, fun l _ => l.budget.isLt,
    fun c _ => c.isLt, nofun⟩
  · rintro _ ⟨⟩
    exact x.generation.isLt
  · rintro _ ⟨⟩
    exact x.state.code_lt

theorem State.leaseImage_words {s : State} (h : s.FieldsInRange) (k : SlotNo) {x : SlotState} (hx : (s.slot k).state = x) :
    (s.leaseImage k)[2].toNat = (s.slot k).generation.toNat + x.code * 256 + (x.mode?.map ClaimMode.code).getD 0 * 4096 +
        (x.owner?.map Owner.code).getD 0 * 65536 ∧
      (s.leaseImage k)[3].toNat = (x.range?.map (·.first.toNat)).getD 0 ∧
      (s.leaseImage k)[4].toNat = (x.range?.map (·.last.toNat)).getD 0 ∧
      (s.leaseImage k)[5].toNat =
        (x.lease?.map (·.term.toNat)).getD 0 + (x.remaining?.map shownUnits).getD 0 * 65536 ∧
      (s.leaseImage k)[6].toNat =
        (x.lease?.map fun y => boolCode y.auto).getD 0 + (x.lease?.map (·.allowance.toNat)).getD 0 * 256 +
          (x.lease?.map (·.budget.toNat)).getD 0 * 65536 + (x.ticketLink?.map (·.val)).getD 0 * 16777216 := by
  obtain ⟨_, _, _, hslots, _⟩ := s.fieldsInRange_iff.1 h
  have hfits := leaseFields_fit (hslots k)
  subst hx
  refine ⟨?_, ?_, ?_, ?_, ?_⟩
  · refine (imageOf_word_toNat 1 k.val hfits 2 (by decide) (by decide) rfl).trans ?_
    simp [fieldSum, leaseFields, Nat.add_assoc]
  · refine (imageOf_word_toNat 1 k.val hfits 3 (by decide) (by decide) rfl).trans ?_
    simp [fieldSum, leaseFields]
  · refine (imageOf_word_toNat 1 k.val hfits 4 (by decide) (by decide) rfl).trans ?_
    simp [fieldSum, leaseFields]
  · refine (imageOf_word_toNat 1 k.val hfits 5 (by decide) (by decide) rfl).trans ?_
    simp [fieldSum, leaseFields]
  · refine (imageOf_word_toNat 1 k.val hfits 6 (by decide) (by decide) rfl).trans ?_
    simp [fieldSum, leaseFields, Nat.add_assoc]

theorem State.leaseImage_rest (s : State) (k : SlotNo) :
    (s.leaseImage k)[0].toNat = 16777216 + k.val ∧ (s.leaseImage k)[11] = (s.leaseImage k)[0] ∧ (s.leaseImage k)[7] = 0 ∧
      (s.leaseImage k)[8] = 0 ∧ (s.leaseImage k)[9] = 0 ∧ (s.leaseImage k)[10] = 0 := by
  obtain ⟨h0, h11⟩ := imageOf_tags 1 k.val (leaseFields (s.slot k))
  rw [State.leaseImage, h0, h11, imageTag_toNat (by decide) (k.isLt.trans (by decide))]
  refine ⟨rfl, rfl, ?_, ?_, ?_, ?_⟩
  all_goals exact imageOf_unused 1 k.val _ (by decide) (by decide) rfl

/-- The mask of a lease image, by state (R27). -/
def SlotState.presence : SlotState → Word
  | .free => 0x003
  | .fence _ => 0x03F
  | .reserved _ _ => 0xF7F
  | .held _ _ => 0x7FF
  | .lapsed _ _ => 0x7FF
  | .revoked _ _ => 0x7FF

theorem presenceMask_leaseFields (x : LeaseSlot) : presenceMask (leaseFields x) = x.state.presence := by
  obtain ⟨g, st⟩ := x
  have htimed : maskOf (List.replicate 11 true ++ [false]) = 0x7FF := by decide
  cases st with
  | free => exact presenceMask_of_present (List.replicate 2 true ++ List.replicate 10 false) 0x003 rfl (by decide)
  | fence r => exact presenceMask_of_present (List.replicate 6 true ++ List.replicate 6 false) 0x03F rfl (by decide)
  | reserved l c =>
    exact presenceMask_of_present (List.replicate 7 true ++ false :: List.replicate 4 true) 0xF7F rfl (by decide)
  | held l r => exact presenceMask_of_present _ _ rfl htimed
  | lapsed l r => exact presenceMask_of_present _ _ rfl htimed
  | revoked l r => exact presenceMask_of_present _ _ rfl htimed

theorem State.leaseImage_mask (s : State) (k : SlotNo) : (s.leaseImage k)[1] = (s.slot k).state.presence := by
  rw [State.leaseImage, imageOf_mask, presenceMask_leaseFields]

/-! ### The wait image -/

/-- The position of an occupied cell is below 64: the cells ahead of it are others, each once (R89, R94). -/
theorem State.position_lt {s : State} (h : s.ListSound) (c : CellNo) : s.position c < 64 := by
  have hnot : c ∉ s.ahead c := fun hc => by simpa using List.mem_takeWhile_imp hc
  have hnodup : (c :: s.ahead c).Nodup := List.nodup_cons.2 ⟨hnot, h.1.sublist (List.takeWhile_sublist _)⟩
  simpa [State.position] using hnodup.length_le_card

theorem CellState.FieldsInRange.waitLeft_le {x : CellState} (h : x.FieldsInRange) : ∀ r ∈ x.waitLeft?, r ≤ 65535 * 1000 :=
  fun r hr => (h.2.1 r hr).trans (by decide)

theorem CellState.FieldsInRange.collectLeft_le {x : CellState} (h : x.FieldsInRange) : ∀ r ∈ x.collectLeft?, r ≤ 255 * 1000 :=
  h.2.2

theorem waitFields_fit {x : WaitCell} (h : x.state.FieldsInRange) {position : Nat} (hp : position < 64) :
    ∀ f ∈ waitFields x position, f.Fits := by
  have hwait (r : Nat) (hr : r ∈ x.state.waitLeft?) := shownUnits_lt (by decide) (h.waitLeft_le r hr)
  have hcollect (r : Nat) (hr : r ∈ x.state.collectLeft?) := shownUnits_lt (by decide) (h.collectLeft_le r hr)
  simp only [waitFields, List.forall_mem_cons, ImageField.Fits, Option.forall_mem_map]
  refine ⟨?_, ?_, fun e _ => e.agent.isLt, fun e _ => e.mode.code_lt, fun e _ => boolCode_lt e.auto, fun r _ => r.code_lt,
    x.state.outcome_lt, fun e _ => e.range.first.isLt, fun e _ => e.range.last.isLt, fun e _ => e.term.isLt,
    fun e _ => e.allowance.isLt, hwait, hcollect, fun k _ => k.isLt, fun _ _ => hp, nofun⟩
  · rintro _ ⟨⟩
    exact x.generation.isLt
  · rintro _ ⟨⟩
    exact x.state.code_lt

theorem State.waitImage_words {s : State} (hl : s.ListSound) (h : s.FieldsInRange) (c : CellNo) {x : CellState}
    (hx : (s.cell c).state = x) :
    (s.waitImage c)[2].toNat = (s.cell c).generation.toNat + x.code * 256 + (x.entry?.map (·.agent.val)).getD 0 * 65536 +
        (x.entry?.map (·.mode.claimMode.code)).getD 0 * 16777216 + (x.entry?.map fun y => boolCode y.auto).getD 0 * 33554432 +
        (x.reason?.map Reason.code).getD 0 * 67108864 + x.outcome?.getD 0 * 268435456 ∧
      (s.waitImage c)[3].toNat = (x.entry?.map (·.range.first.toNat)).getD 0 ∧
      (s.waitImage c)[4].toNat = (x.entry?.map (·.range.last.toNat)).getD 0 ∧
      (s.waitImage c)[5].toNat =
        (x.entry?.map (·.term.toNat)).getD 0 + (x.entry?.map (·.allowance.toNat)).getD 0 * 65536 ∧
      (s.waitImage c)[6].toNat = (x.waitLeft?.map shownUnits).getD 0 + (x.collectLeft?.map shownUnits).getD 0 * 65536 ∧
      (s.waitImage c)[7].toNat = (x.leaseSlot?.map (·.val)).getD 0 + (x.entry?.map fun _ => s.position c).getD 0 * 256 := by
  obtain ⟨_, _, _, _, hcells, _⟩ := s.fieldsInRange_iff.1 h
  have hfits := waitFields_fit (hcells c) (State.position_lt hl c)
  subst hx
  refine ⟨?_, ?_, ?_, ?_, ?_, ?_⟩
  · refine (imageOf_word_toNat 2 c.val hfits 2 (by decide) (by decide) rfl).trans ?_
    simp [fieldSum, waitFields, Nat.add_assoc]
  · refine (imageOf_word_toNat 2 c.val hfits 3 (by decide) (by decide) rfl).trans ?_
    simp [fieldSum, waitFields]
  · refine (imageOf_word_toNat 2 c.val hfits 4 (by decide) (by decide) rfl).trans ?_
    simp [fieldSum, waitFields]
  · refine (imageOf_word_toNat 2 c.val hfits 5 (by decide) (by decide) rfl).trans ?_
    simp [fieldSum, waitFields]
  · refine (imageOf_word_toNat 2 c.val hfits 6 (by decide) (by decide) rfl).trans ?_
    simp [fieldSum, waitFields]
  · refine (imageOf_word_toNat 2 c.val hfits 7 (by decide) (by decide) rfl).trans ?_
    simp [fieldSum, waitFields]

theorem State.waitImage_rest (s : State) (c : CellNo) :
    (s.waitImage c)[0].toNat = 2 * 16777216 + c.val ∧ (s.waitImage c)[11] = (s.waitImage c)[0] ∧ (s.waitImage c)[8] = 0 ∧
      (s.waitImage c)[9] = 0 ∧ (s.waitImage c)[10] = 0 := by
  obtain ⟨h0, h11⟩ := imageOf_tags 2 c.val (waitFields (s.cell c) (s.position c))
  rw [State.waitImage, h0, h11, imageTag_toNat (by decide) (c.isLt.trans (by decide))]
  refine ⟨rfl, rfl, ?_, ?_, ?_⟩
  all_goals exact imageOf_unused 2 c.val _ (by decide) (by decide) rfl

/-- The mask of a wait image, by state (R91). -/
def CellState.presence : CellState → Word
  | .empty => 0x0003
  | .waiting _ _ none => 0x47BF
  | .waiting _ _ (some _) => 0x4FBF
  | .granted _ _ _ => 0x77DF
  | .ended _ _ _ => 0x57DF

theorem presenceMask_waitFields (x : WaitCell) (position : Nat) : presenceMask (waitFields x position) = x.state.presence := by
  obtain ⟨g, st⟩ := x
  cases st with
  | empty => exact presenceMask_of_present (List.replicate 2 true ++ List.replicate 13 false) 0x0003 rfl (by decide)
  | waiting e r w =>
    cases w with
    | none =>
      exact presenceMask_of_present
        (List.replicate 6 true ++ false :: List.replicate 4 true ++ List.replicate 3 false ++ [true]) 0x47BF rfl (by decide)
    | some n =>
      exact presenceMask_of_present
        (List.replicate 6 true ++ false :: List.replicate 5 true ++ List.replicate 2 false ++ [true]) 0x4FBF rfl (by decide)
  | granted e left k =>
    exact presenceMask_of_present
      (List.replicate 5 true ++ false :: List.replicate 5 true ++ false :: List.replicate 3 true) 0x77DF rfl (by decide)
  | ended e o left =>
    exact presenceMask_of_present
      (List.replicate 5 true ++ false :: List.replicate 5 true ++ [false, true, false, true]) 0x57DF rfl (by decide)

theorem State.waitImage_mask (s : State) (c : CellNo) : (s.waitImage c)[1] = (s.cell c).state.presence := by
  rw [State.waitImage, imageOf_mask, presenceMask_waitFields]

/-! ### The agent image -/

theorem scoreFields_fit (word : Nat) {x : Score} (h : x.InRange) (hs : x.settings.InRange) : ∀ f ∈ scoreFields word x, f.Fits := by
  obtain ⟨_, hvalue, _⟩ := h
  obtain ⟨hthreshold, _, hpenalty⟩ := hs
  simp only [scoreFields, List.forall_mem_cons, ImageField.Fits, Option.mem_some_iff, forall_eq']
  exact ⟨by omega, by omega, by omega, x.settings.scoreClass.code_lt, nofun⟩

theorem State.agentFields_fit {s : State} (h : s.FieldsInRange) (hs : s.ScoresInRange) (hl : s.WithinLimits) (a : AgentNo) :
    ∀ f ∈ s.agentFields a, f.Fits := by
  obtain ⟨_, _, hagents, _⟩ := h
  obtain ⟨hlimit, hoverstay, habandon, htrespass⟩ := hagents a
  obtain ⟨hscoreO, hscoreA, hscoreT⟩ := hs a
  obtain ⟨howned, htickets⟩ := hl a
  simp only [State.agentFields, List.forall_mem_append, and_assoc]
  refine ⟨?_, scoreFields_fit 3 hscoreO hoverstay, scoreFields_fit 4 hscoreA habandon, scoreFields_fit 5 hscoreT htrespass, ?_⟩
  · simp only [List.forall_mem_cons, ImageField.Fits, Option.mem_some_iff, forall_eq']
    exact ⟨(s.port a).code_lt, (s.agent a).arbiterClass.code_lt, by omega, by omega, by omega, (s.agent a).standing.code_lt, nofun⟩
  · obtain ⟨_, _, hrawO⟩ := hscoreO
    obtain ⟨_, _, hrawA⟩ := hscoreA
    obtain ⟨_, _, hrawT⟩ := hscoreT
    simp only [List.forall_mem_cons, ImageField.Fits, Option.mem_some_iff, forall_eq']
    exact ⟨by omega, by omega, by omega, nofun⟩

/-- The image word of one conduct score (13.5). -/
def Score.imageWord (x : Score) : Nat :=
  x.value + x.settings.threshold * 256 + x.settings.penalty * 65536 + x.settings.scoreClass.code * 16777216

theorem State.agentImage_words {s : State} (h : s.FieldsInRange) (hs : s.ScoresInRange) (hl : s.WithinLimits) (a : AgentNo) :
    (s.agentImage a)[2].toNat =
        (s.port a).code + (s.agent a).arbiterClass.code * 4 + (s.agent a).leaseLimit * 256 + s.ownedSlots a * 65536 +
          s.ticketCount a * 16777216 + (s.standing a).code * 268435456 ∧
      (s.agentImage a)[3].toNat = (s.agent a).overstay.imageWord ∧ (s.agentImage a)[4].toNat = (s.agent a).abandon.imageWord ∧
      (s.agentImage a)[5].toNat = (s.agent a).trespass.imageWord ∧
      (s.agentImage a)[6].toNat = (s.agent a).overstay.rawCount + (s.agent a).abandon.rawCount * 65536 ∧
      (s.agentImage a)[7].toNat = (s.agent a).trespass.rawCount := by
  have hfits := State.agentFields_fit h hs hl a
  refine ⟨?_, ?_, ?_, ?_, ?_, ?_⟩
  · refine (imageOf_word_toNat 3 a.val hfits 2 (by decide) (by decide) rfl).trans ?_
    simp [fieldSum, State.agentFields, scoreFields, State.standing, Nat.add_assoc]
  · refine (imageOf_word_toNat 3 a.val hfits 3 (by decide) (by decide) rfl).trans ?_
    simp [fieldSum, State.agentFields, scoreFields, Score.imageWord, Nat.add_assoc]
  · refine (imageOf_word_toNat 3 a.val hfits 4 (by decide) (by decide) rfl).trans ?_
    simp [fieldSum, State.agentFields, scoreFields, Score.imageWord, Nat.add_assoc]
  · refine (imageOf_word_toNat 3 a.val hfits 5 (by decide) (by decide) rfl).trans ?_
    simp [fieldSum, State.agentFields, scoreFields, Score.imageWord, Nat.add_assoc]
  · refine (imageOf_word_toNat 3 a.val hfits 6 (by decide) (by decide) rfl).trans ?_
    simp [fieldSum, State.agentFields, scoreFields]
  · refine (imageOf_word_toNat 3 a.val hfits 7 (by decide) (by decide) rfl).trans ?_
    simp [fieldSum, State.agentFields, scoreFields]

theorem State.agentImage_rest (s : State) (a : AgentNo) :
    (s.agentImage a)[0].toNat = 3 * 16777216 + a.val ∧ (s.agentImage a)[11] = (s.agentImage a)[0] ∧ (s.agentImage a)[8] = 0 ∧
      (s.agentImage a)[9] = 0 ∧ (s.agentImage a)[10] = 0 ∧ (s.agentImage a)[1] = 0x1FFFFF := by
  obtain ⟨h0, h11⟩ := imageOf_tags 3 a.val (s.agentFields a)
  rw [State.agentImage, h0, h11, imageTag_toNat (by decide) (a.isLt.trans (by decide))]
  refine ⟨rfl, rfl, ?_, ?_, ?_, ?_⟩
  · exact imageOf_unused 3 a.val _ (by decide) (by decide) rfl
  · exact imageOf_unused 3 a.val _ (by decide) (by decide) rfl
  · exact imageOf_unused 3 a.val _ (by decide) (by decide) rfl
  · rw [imageOf_mask]
    exact presenceMask_of_present (List.replicate 21 true) 0x1FFFFF rfl (by decide)

/-! ### The sweep image -/

theorem sweepFields_fit {r : SweepRecord} (h : r.CountsInRange) : ∀ f ∈ sweepFields r, f.Fits := by
  obtain ⟨hrevoked, hnext, htenths⟩ := h
  simp only [sweepFields, List.forall_mem_cons, ImageField.Fits, Option.forall_mem_map, Option.mem_some_iff, forall_eq']
  exact ⟨r.status.code_lt, fun k _ => k.code_lt, fun b _ => boolCode_lt b, fun a _ => a.isLt, fun q _ => q.first.isLt,
    fun q _ => q.last.isLt, by omega, by omega, by omega, nofun⟩

theorem State.sweepImage_words {s : State} (h : s.FieldsInRange) {k : Option SweepKind} (hk : s.sweep.kind = k) :
    s.sweepImage[2].toNat = s.sweep.status.code + (k.map SweepKind.code).getD 0 * 16 +
        ((k.bind SweepKind.cancelWaiters?).map boolCode).getD 0 * 64 + ((k.bind SweepKind.target?).map (·.val)).getD 0 * 256 ∧
      s.sweepImage[3].toNat = ((k.bind SweepKind.range?).map (·.first.toNat)).getD 0 ∧
      s.sweepImage[4].toNat = ((k.bind SweepKind.range?).map (·.last.toNat)).getD 0 ∧
      s.sweepImage[5].toNat = s.sweep.nextSlot + s.sweep.revokedCount * 256 + s.sweep.tenths * 65536 := by
  obtain ⟨_, _, _, _, _, hsweep⟩ := s.fieldsInRange_iff.1 h
  have hfits := sweepFields_fit hsweep
  subst hk
  refine ⟨?_, ?_, ?_, ?_⟩
  · refine (imageOf_word_toNat 4 0 hfits 2 (by decide) (by decide) rfl).trans ?_
    simp [fieldSum, sweepFields, Nat.add_assoc]
  · refine (imageOf_word_toNat 4 0 hfits 3 (by decide) (by decide) rfl).trans ?_
    simp [fieldSum, sweepFields]
  · refine (imageOf_word_toNat 4 0 hfits 4 (by decide) (by decide) rfl).trans ?_
    simp [fieldSum, sweepFields]
  · refine (imageOf_word_toNat 4 0 hfits 5 (by decide) (by decide) rfl).trans ?_
    simp [fieldSum, sweepFields, Nat.add_assoc]

theorem State.sweepImage_rest (s : State) :
    s.sweepImage[0].toNat = 4 * 16777216 ∧ s.sweepImage[11] = s.sweepImage[0] ∧ s.sweepImage[6] = 0 ∧ s.sweepImage[7] = 0 ∧
      s.sweepImage[8] = 0 ∧ s.sweepImage[9] = 0 ∧ s.sweepImage[10] = 0 := by
  obtain ⟨h0, h11⟩ := imageOf_tags 4 0 (sweepFields s.sweep)
  rw [State.sweepImage, h0, h11, imageTag_toNat (by decide) (by decide)]
  refine ⟨rfl, rfl, ?_, ?_, ?_, ?_, ?_⟩
  all_goals exact imageOf_unused 4 0 _ (by decide) (by decide) rfl

/-- The mask of the sweep image, by kind (R148). -/
def sweepPresence : Option SweepKind → Word
  | none => 0x1C1
  | some (.range _ _) => 0x1F7
  | some (.agent _) => 0x1CB

theorem State.sweepImage_mask (s : State) : s.sweepImage[1] = sweepPresence s.sweep.kind := by
  rw [State.sweepImage, imageOf_mask]
  obtain ⟨status, kind, nextSlot, revokedCount, tenths⟩ := s.sweep
  cases kind with
  | none =>
    exact presenceMask_of_present (true :: List.replicate 5 false ++ List.replicate 3 true) 0x1C1 rfl (by decide)
  | some k =>
    cases k with
    | range r c => exact presenceMask_of_present (List.replicate 3 true ++ false :: List.replicate 5 true) 0x1F7 rfl (by decide)
    | agent a => exact presenceMask_of_present [true, true, false, true, false, false, true, true, true] 0x1CB rfl (by decide)

/-! ### The statement -/

theorem word_eq_zero_of_toNat {w : Word} {n : Nat} (h : w.toNat = n) (hn : n = 0) : w = 0 :=
  BitVec.eq_of_toNat_eq (h.trans hn)

/-- Word 2 of the image of an occupied cell: what the entry gives it, and what the state does (R91). -/
theorem State.waitImage_word_two {s : State} (hl : s.ListSound) (h : s.FieldsInRange) {c : CellNo} {x : CellState} {e : WaitEntry}
    (hx : (s.cell c).state = x) (he : x.entry? = some e) :
    (s.waitImage c)[2].toNat =
      (s.cell c).generation.toNat + e.agent.val * 65536 + (if e.mode = .exclusive then 16777216 else 0) +
          (if e.auto then 33554432 else 0) +
        x.code * 256 + (x.reason?.map Reason.code).getD 0 * 67108864 + x.outcome?.getD 0 * 268435456 := by
  obtain ⟨h2, _⟩ := State.waitImage_words hl h c hx
  have hmode : e.mode.claimMode.code * 16777216 = if e.mode = .exclusive then 16777216 else 0 := by
    rw [LeaseMode.code_eq, ite_mul, Nat.one_mul, Nat.zero_mul]
  have hauto : boolCode e.auto * 33554432 = if e.auto then 33554432 else 0 := by
    rw [boolCode, ite_mul, Nat.one_mul, Nat.zero_mul]
  rw [he] at h2
  simp only [Option.map_some, Option.getD_some] at h2
  rw [h2, hmode, hauto]
  omega

/-- Settles O45: each image has its tags, its mask and its words by the lemmas above, read at each state of the record. -/
theorem snapshotImageWords : Obligations.SnapshotImageWords := by
  intro s hlist hfields hscores hlimits
  refine ⟨?_, ?_, ?_, ?_⟩
  · rintro k im g rfl rfl
    obtain ⟨h0, h11, h7, h8, h9, h10⟩ := s.leaseImage_rest k
    have hmask := s.leaseImage_mask k
    refine ⟨h0, h11, h7, h8, h9, h10, fun hst => ?_, fun r hst => ?_, ?_⟩
    · obtain ⟨h2, h3, h4, h5, h6⟩ := State.leaseImage_words hfields k hst
      rw [hst] at hmask
      exact ⟨hmask, h2, BitVec.eq_of_toNat_eq h3, BitVec.eq_of_toNat_eq h4,
        word_eq_zero_of_toNat h5 (by simp [SlotState.lease?, SlotState.remaining?]),
        word_eq_zero_of_toNat h6 (by simp [SlotState.lease?, SlotState.ticketLink?])⟩
    · obtain ⟨h2, h3, h4, h5, h6⟩ := State.leaseImage_words hfields k hst
      rw [hst] at hmask
      exact ⟨hmask, h2, BitVec.eq_of_toNat_eq h3, BitVec.eq_of_toNat_eq h4,
        word_eq_zero_of_toNat h5 (by simp [SlotState.lease?, SlotState.remaining?]),
        word_eq_zero_of_toNat h6 (by simp [SlotState.lease?, SlotState.ticketLink?])⟩
    · rintro l m rfl
      rw [← LeaseMode.code_eq]
      refine ⟨fun c hst => ?_, fun r code hst => ?_⟩
      · obtain ⟨h2, h3, h4, h5, h6⟩ := State.leaseImage_words hfields k hst
        rw [hst] at hmask
        exact ⟨hmask, h2, BitVec.eq_of_toNat_eq h3, BitVec.eq_of_toNat_eq h4,
          h5.trans (by simp [SlotState.lease?, SlotState.remaining?]),
          h6.trans (by simp [SlotState.lease?, SlotState.ticketLink?, boolCode])⟩
      · obtain ⟨hst, rfl⟩ | ⟨hst, rfl⟩ | ⟨hst, rfl⟩ := hst
        all_goals
          obtain ⟨h2, h3, h4, h5, h6⟩ := State.leaseImage_words hfields k hst
          rw [hst] at hmask
          exact ⟨hmask, h2, BitVec.eq_of_toNat_eq h3, BitVec.eq_of_toNat_eq h4, h5,
            h6.trans (by simp [SlotState.lease?, SlotState.ticketLink?, boolCode])⟩
  · rintro c im g rfl rfl
    obtain ⟨h0, h11, h8, h9, h10⟩ := s.waitImage_rest c
    have hmask := s.waitImage_mask c
    refine ⟨h0, h11, h8, h9, h10, fun hst => ?_, ?_⟩
    · obtain ⟨h2, h3, h4, h5, h6, h7⟩ := State.waitImage_words hlist hfields c hst
      rw [hst] at hmask
      exact ⟨hmask, h2, BitVec.eq_of_toNat_eq h3, BitVec.eq_of_toNat_eq h4,
        word_eq_zero_of_toNat h5 (by simp [CellState.entry?]),
        word_eq_zero_of_toNat h6 (by simp [CellState.waitLeft?, CellState.collectLeft?]),
        word_eq_zero_of_toNat h7 (by simp [CellState.leaseSlot?, CellState.entry?])⟩
    · rintro e n place rfl rfl
      refine ⟨fun he => ?_, fun x left why hst hwhy => ?_, fun r k hst => ?_, fun o r how hst hhow => ?_⟩
      · obtain ⟨_, h3, h4, h5, _⟩ := State.waitImage_words hlist hfields c rfl
        rw [he] at h3 h4 h5
        exact ⟨BitVec.eq_of_toNat_eq h3, BitVec.eq_of_toNat_eq h4, h5⟩
      · have h2 := State.waitImage_word_two hlist hfields hst rfl
        obtain ⟨_, _, _, _, h6, h7⟩ := State.waitImage_words hlist hfields c hst
        rw [hst] at hmask
        have hcode : x.code = why := by obtain ⟨rfl, rfl⟩ | ⟨rfl, rfl⟩ | ⟨rfl, rfl⟩ := hwhy <;> rfl
        refine ⟨h2.trans (by simp [CellState.code, CellState.reason?, CellState.outcome?, hcode]),
          h7.trans (by simp [CellState.leaseSlot?, CellState.entry?, State.position, State.ahead]), ?_, ?_⟩
        · rintro rfl
          exact ⟨hmask, word_eq_zero_of_toNat h6 (by simp [CellState.waitLeft?, CellState.collectLeft?])⟩
        · rintro r rfl
          exact ⟨hmask, h6.trans (by simp [CellState.waitLeft?, CellState.collectLeft?, shownUnits])⟩
      · have h2 := State.waitImage_word_two hlist hfields hst rfl
        obtain ⟨_, _, _, _, h6, h7⟩ := State.waitImage_words hlist hfields c hst
        rw [hst] at hmask
        exact ⟨hmask, h2.trans (by simp [CellState.code, CellState.reason?, CellState.outcome?]),
          h6.trans (by simp [CellState.waitLeft?, CellState.collectLeft?, shownUnits]), h7⟩
      · have h2 := State.waitImage_word_two hlist hfields hst rfl
        obtain ⟨_, _, _, _, h6, h7⟩ := State.waitImage_words hlist hfields c hst
        rw [hst] at hmask
        have hcode : o.code = how := by obtain ⟨rfl, rfl⟩ | ⟨rfl, rfl⟩ | ⟨rfl, rfl⟩ := hhow <;> rfl
        exact ⟨hmask, h2.trans (by simp [CellState.code, CellState.reason?, CellState.outcome?, hcode]),
          h6.trans (by simp [CellState.waitLeft?, CellState.collectLeft?, shownUnits]),
          h7.trans (by simp [CellState.leaseSlot?, CellState.entry?, State.position, State.ahead])⟩
  · rintro a im x word rfl rfl rfl
    obtain ⟨h0, h11, h8, h9, h10, hmask⟩ := s.agentImage_rest a
    obtain ⟨h2, h3, h4, h5, h6, h7⟩ := State.agentImage_words hfields hscores hlimits a
    exact ⟨h0, h11, h8, h9, h10, hmask, h2, h3, h4, h5, h6, h7⟩
  · rintro im n rfl rfl
    obtain ⟨h0, h11, h6, h7, h8, h9, h10⟩ := s.sweepImage_rest
    have hmask := s.sweepImage_mask
    obtain ⟨_, _, _, h5⟩ := State.sweepImage_words hfields rfl
    refine ⟨h0, h11, h6, h7, h8, h9, h10, h5, fun hk => ?_, fun r cancel hk => ?_, fun a hk => ?_⟩
    all_goals
      obtain ⟨h2, h3, h4, _⟩ := State.sweepImage_words hfields hk
      rw [hk] at hmask
    · exact ⟨hmask, h2, BitVec.eq_of_toNat_eq h3, BitVec.eq_of_toNat_eq h4⟩
    · refine ⟨hmask, h2.trans ?_, BitVec.eq_of_toNat_eq h3, BitVec.eq_of_toNat_eq h4⟩
      cases cancel <;> simp [SweepKind.code, SweepKind.cancelWaiters?, SweepKind.target?, boolCode]
    · exact ⟨hmask, h2, BitVec.eq_of_toNat_eq h3, BitVec.eq_of_toNat_eq h4⟩

end Sys2Proof.Machine
end

section
/-! SUPPORT. The bounds of a HELD lease: remaining within the term, budget left within the allowance (R39). -/

namespace Sys2Proof.Machine

/-! ### Remaining time and budget of HELD leases (R39) -/

/-- A HELD agent lease has remaining at most its term and budget left at most its allowance; of any other
state nothing is asked (R39). -/
def SlotState.WithinBounds : SlotState → Prop
  | .held l r => r ≤ units l.term.toNat ∧ l.budget.toNat ≤ l.allowance.toNat
  | _ => True

theorem State.heldWithinBounds_iff (s : State) : s.HeldWithinBounds ↔ ∀ k, (s.slot k).state.WithinBounds := by
  refine forall_congr' fun k => ⟨fun h => ?_, fun h l r hst => ?_⟩
  · cases hst : (s.slot k).state with
    | held l r => exact h l r hst
    | _ => trivial
  · rw [hst] at h
    exact h

/-- A renewal restarts the timer with the new term and lowers a budget that is not 0; a collection gives the whole term and
the whole allowance; time only lowers what remains. -/
theorem SlotMove.withinBounds {s : State} {x y : SlotState} (h : SlotMove s x y) (hx : x.WithinBounds) : y.WithinBounds := by
  cases h with
  | stays => exact hx
  | renewed l r term hterm hbudget =>
    obtain ⟨_, hle⟩ := hx
    have hpred : (l.budget - 1).toNat ≤ l.budget.toNat := by bv_omega
    exact ⟨Nat.le_refl _, hpred.trans hle⟩
  | collected l c => exact ⟨Nat.le_refl _, Nat.le_refl _⟩
  | elapsed d =>
    cases x with
    | held l r =>
      obtain ⟨hr, hle⟩ := hx
      exact ⟨(Nat.sub_le r d).trans hr, hle⟩
    | _ => trivial
  | _ => trivial

theorem State.HeldWithinBounds.congr {s t : State} (h : SameTables s t) (hs : s.HeldWithinBounds) : t.HeldWithinBounds := by
  simpa only [State.HeldWithinBounds, State.slot_sameTables h] using hs

theorem State.HeldWithinBounds.setSlotState {s : State} (hs : s.HeldWithinBounds) {k : SlotNo} {x : SlotState}
    (hx : x.WithinBounds) : (s.setSlotState k x).HeldWithinBounds := by
  rw [State.heldWithinBounds_iff] at hs ⊢
  intro j
  rw [State.slot_setSlotState]
  split
  · exact hx
  · exact hs j

theorem State.HeldWithinBounds.change {s t : State} (h : Change s t) (hs : s.HeldWithinBounds) : t.HeldWithinBounds := by
  cases h with
  | outside h => exact hs.congr h.toSameTables
  | slots v h =>
    rw [State.heldWithinBounds_iff] at hs ⊢
    exact fun k => (h k).withinBounds (hs k)
  | acquired a w0 q m k hq hk => exact hs.setSlotState ⟨Nat.le_refl _, Nat.le_refl _⟩
  | fenced r k hr hw hl hk => exact hs.setSlotState trivial
  | granted c e r w k hc hk hm => exact State.HeldWithinBounds.setSlotState (s := s) hs trivial
  | _ => exact hs

theorem State.heldWithinBounds_poweredOn (s : State) (g : Bool) (n : BitVec 2) (w : Word) :
    (s.poweredOn g n w).HeldWithinBounds := fun k l r h => by simp at h

/-- Settles O54: a lease starts with its whole term and budget (R34, R36), and every change of a slot keeps the bounds. -/
theorem stepKeepsHeldWithinBounds : Obligations.StepKeepsHeldWithinBounds := fun _ _ hs h =>
  step_keeps_tables (fun _ _ => .congr) (fun _ _ => .change) State.heldWithinBounds_poweredOn h hs

end Sys2Proof.Machine
end

section
/-! SUPPORT. The grant pass: it is the walk of R99, and what it makes of each slot and of each cell (R35, R97, R100). -/

namespace Sys2Proof.Machine

/-! ### The walk (R99) -/

theorem State.olderAgainst_eq_false_iff (s : State) (c : CellNo) (e : WaitEntry) :
    s.olderAgainst c e = false ↔ ∀ d ∈ s.ahead c, ∀ o ∈ (s.cell d).state.waiting?, o.claim.conflicts e.claim = false := by
  simp only [State.olderAgainst, List.any_eq_false, Option.any_eq_true, Option.mem_def, not_exists, not_and, Bool.not_eq_true]

/-- The model's test of an entry is conditions (a) to (d) (R99). -/
theorem State.mayGrant_iff (s : State) (c : CellNo) (e : WaitEntry) : s.mayGrant c e = true ↔ s.GrantConditions c e := by
  rw [State.GrantConditions, ← State.heldAgainst_eq_false_iff, ← State.olderAgainst_eq_false_iff, ← SweepRecord.fallsOn_iff]
  simp [State.mayGrant, and_assoc]

theorem CellState.waiting?_eq_some_iff (x : CellState) (e : WaitEntry) :
    x.waiting? = some e ↔ ∃ r w, x = .waiting e r w := by
  cases x <;> simp [CellState.waiting?]

theorem State.grantEntry_eq_withGrant (s : State) (c : CellNo) (e : WaitEntry) (k : SlotNo) :
    s.grantEntry c e k = s.withGrant c e k := rfl

theorem grantWalk_walks : ∀ (cs : List CellNo) (s : State), State.Walks cs s (grantWalk cs s)
  | [], s => .finished s
  | c :: cs, s => by
    unfold grantWalk
    split
    · next e r w hc =>
      have hwait : (s.cell c).state.waiting? = some e := by rw [hc]; rfl
      split
      · next hfull => exact .noSlotLeft hwait (s.lowestFree_eq_none_iff.1 hfull)
      · next k hk =>
        have hlow := (s.lowestFree_eq_some_iff k).1 hk
        unfold State.visitEntry
        split
        · next hm => exact .granted hwait hlow ((s.mayGrant_iff c e).1 hm) (grantWalk_walks cs _)
        · next hm => exact .heldBack hwait hlow (fun h => hm ((s.mayGrant_iff c e).2 h)) (grantWalk_walks cs _)
    · next hnot =>
      refine .passedOver (Option.eq_none_iff_forall_ne_some.2 fun e he => ?_) (grantWalk_walks cs s)
      obtain ⟨r, w, hc⟩ := (CellState.waiting?_eq_some_iff _ _).1 he
      exact hnot e r w hc

/-! ### What the pass makes of slots and cells (R35, R97, R100) -/

/-- From `s` to `t` the FREE slot `k` was granted to the entry that waited in cell `c` (R35, R97, R100). -/
def State.GrantedBetween (s t : State) (c : CellNo) (k : SlotNo) : Prop :=
  ∃ e x left, (s.slot k).state = .free ∧ (s.cell c).state = .waiting e x left ∧
    t.slot k = ⟨(s.slot k).generation, .reserved e.lease c⟩ ∧ t.cell c = ⟨(s.cell c).generation, .granted e s.collectAmount k⟩

/-- From `s` to `t` slots and cells were granted in pairs, and nothing else changed. -/
structure State.GrantsOnly (s t : State) : Prop where
  frame : t = { s with slots := t.slots, cells := t.cells }
  slot : ∀ k, t.slot k = s.slot k ∨ ∃ c, s.GrantedBetween t c k
  cell : ∀ c, t.cell c = s.cell c ∨ ∃ k, s.GrantedBetween t c k

theorem State.slot_grantEntry (s : State) (c : CellNo) (e : WaitEntry) (k j : SlotNo) :
    (s.grantEntry c e k).slot j = if k = j then ⟨(s.slot k).generation, .reserved e.lease c⟩ else s.slot j :=
  s.slot_setSlotState k j _

theorem State.cell_grantEntry (s : State) (c d : CellNo) (e : WaitEntry) (k : SlotNo) :
    (s.grantEntry c e k).cell d = if c = d then ⟨(s.cell c).generation, .granted e s.collectAmount k⟩ else s.cell d :=
  State.cell_setCellState _ c d _

/-- A pair granted before stays as it is at a further grant, which needs a FREE slot and a WAITING entry. -/
theorem State.GrantedBetween.grantEntry {s t : State} {c d : CellNo} {e : WaitEntry} {k j : SlotNo} (h : s.GrantedBetween t d j)
    (hk : (t.slot k).state = .free) (hc : (t.cell c).state.waiting? = some e) : s.GrantedBetween (t.grantEntry c e k) d j := by
  obtain ⟨o, x, left, hfree, hwait, hslot, hcell⟩ := h
  have hkj : k ≠ j := by rintro rfl; simp [hslot] at hk
  have hcd : c ≠ d := by rintro rfl; simp [hcell, CellState.waiting?] at hc
  exact ⟨o, x, left, hfree, hwait, by rw [State.slot_grantEntry, if_neg hkj, hslot],
    by rw [State.cell_grantEntry, if_neg hcd, hcell]⟩

theorem State.GrantsOnly.refl (s : State) : s.GrantsOnly s := ⟨rfl, fun _ => .inl rfl, fun _ => .inl rfl⟩

theorem State.GrantsOnly.grantEntry {s t : State} (h : s.GrantsOnly t) {c : CellNo} {e : WaitEntry} {r : Reason} {w : Option Nat}
    {k : SlotNo} (hc : (t.cell c).state = .waiting e r w) (hk : (t.slot k).state = .free) :
    s.GrantsOnly (t.grantEntry c e k) := by
  have hframe := h.frame
  have hwait : (t.cell c).state.waiting? = some e := by rw [hc]; rfl
  have hslot : t.slot k = s.slot k := by
    refine (h.slot k).resolve_right ?_
    rintro ⟨d, o, x, left, _, _, hgranted, _⟩
    simp [hgranted] at hk
  have hcell : t.cell c = s.cell c := by
    refine (h.cell c).resolve_right ?_
    rintro ⟨j, o, x, left, _, _, _, hgranted⟩
    simp [hgranted] at hc
  have hwindow : t.collectAmount = s.collectAmount := by rw [hframe]; rfl
  have hnew : s.GrantedBetween (t.grantEntry c e k) c k :=
    ⟨e, r, w, hslot ▸ hk, hcell ▸ hc, by rw [State.slot_grantEntry, if_pos rfl, hslot],
      by rw [State.cell_grantEntry, if_pos rfl, hcell, hwindow]⟩
  refine ⟨?_, fun j => ?_, fun d => ?_⟩
  · conv_lhs => rw [hframe]
    rw [State.grantEntry_eq_withGrant]
    conv_rhs => rw [hframe]
    rfl
  · by_cases hkj : k = j
    · exact .inr ⟨c, hkj ▸ hnew⟩
    · obtain heq | ⟨d, hd⟩ := h.slot j
      · exact .inl (by rw [State.slot_grantEntry, if_neg hkj, heq])
      · exact .inr ⟨d, hd.grantEntry hk hwait⟩
  · by_cases hcd : c = d
    · exact .inr ⟨k, hcd ▸ hnew⟩
    · obtain heq | ⟨j, hj⟩ := h.cell d
      · exact .inl (by rw [State.cell_grantEntry, if_neg hcd, heq])
      · exact .inr ⟨j, hj.grantEntry hk hwait⟩

/-- A grant pass does nothing but grant (R100). -/
theorem State.grantPass_grantsOnly (s : State) : s.GrantsOnly s.grantPass :=
  s.grantPass_induct s.GrantsOnly (fun _ _ _ _ _ _ h hc hk _ => h.grantEntry hc hk.1) (.refl s)

/-- Settles O34. -/
theorem grantPassOnlyGrants : Obligations.GrantPassOnlyGrants := by
  rintro s t rfl
  have h := s.grantPass_grantsOnly
  refine ⟨grantWalk_walks s.order s, h.frame, fun k => (h.slot k).imp_right ?_, fun c => (h.cell c).imp_right ?_⟩
  · rintro ⟨c, e, x, left, hfree, hwait, hslot, hcell⟩
    exact ⟨c, e, x, left, hfree, hwait, hslot, hcell⟩
  · rintro ⟨k, e, x, left, hfree, hwait, hslot, hcell⟩
    exact ⟨k, e, x, left, hfree, hwait, hcell, hslot⟩

end Sys2Proof.Machine
end

section
/-! SUPPORT. Requests that are served: the immediate grant, RENEW, RELEASE and POLL (R34, R38, R76, R77, R82 to R86, R103 to
R106). -/

namespace Sys2Proof.Machine

/-! ### The immediate grant (R34, R76, R77) -/

theorem wordOf_toNat (x : BitVec 16) : wordOf x.toNat = x.setWidth 32 := BitVec.ofNat_toNat 32 x

/-- With no obstacle the immediate-grant test finds the lowest-numbered FREE slot (R76). -/
theorem State.immediate_eq_grant {s : State} {q : Claim} {k : SlotNo} (hconflict : ¬ s.ConflictObstacle q)
    (hfence : s.fencedAgainst q = false) (hk : s.LowestFreeIs k) : s.immediate q = .grant k := by
  rw [← State.conflictObstacle_iff, Bool.not_eq_true] at hconflict
  simp [State.immediate, hconflict, hfence, (s.lowestFree_eq_some_iff k).2 hk]

/-- Settles O13. -/
theorem acquireGrantedAtOnce : Obligations.AcquireGrantedAtOnce := by
  rintro s a w0 w1 w2 w3 q m k rfl hgoes hconflict hsweep hk
  rw [← State.fencedAgainst_iff s a m.claimMode, Bool.not_eq_true] at hsweep
  have hgrant : s.immediate ((acquireFields w0 w1 w2 w3).entry a m).claim = .grant k :=
    State.immediate_eq_grant hconflict hsweep hk
  change Host.Outcome.next _ = _
  rw [State.takeRequest_of_requesting hgoes.1, State.serveAcquire_of_goesOn hgoes, State.acquireOrWait, hgrant, ← wordOf_toNat]
  rfl

/-! ### Handles (R29, R82) -/

theorem State.handleCurrent_iff (s : State) (h : Handle) : s.handleCurrent h = true ↔ ¬ s.HandleStale h := by
  cases hst : (s.slot h.slot).state <;> simp [State.handleCurrent, State.HandleStale, SlotState.nameable, hst]

theorem State.handleCurrent_of_stale {s : State} {h : Handle} (hs : s.HandleStale h) : s.handleCurrent h = false :=
  Bool.eq_false_of_not_eq_true fun hc => (s.handleCurrent_iff h).1 hc hs

theorem State.handleCurrent_of_slot {s : State} {h : Handle} {x : SlotState} (hslot : s.slot h.slot = ⟨h.generation, x⟩)
    (hx : x.nameable = true) : s.handleCurrent h = true := by
  simp [State.handleCurrent, hslot, hx]

/-- A current handle of a fence or of another agent's lease passes the first test and fails the second (R82). -/
theorem State.of_handleOfOther {s : State} {a : AgentNo} {h : Handle} (ho : s.HandleOfOther a h) :
    s.handleCurrent h = true ∧ (s.slot h.slot).state.ownedBy a = false := by
  obtain ⟨q, hslot⟩ | ⟨l, r, howner, hslot | hslot | hslot⟩ := ho
  · exact ⟨State.handleCurrent_of_slot hslot rfl, by rw [hslot]; rfl⟩
  all_goals exact ⟨State.handleCurrent_of_slot hslot rfl, by rw [hslot]; exact beq_eq_false_iff_ne.2 howner⟩

/-! ### RENEW (R38, R84, R85) -/

/-- A RENEW of the agent's own HELD lease goes on to the tests of R84. -/
theorem State.serveRenew_of_held {s : State} {h : Handle} {l : AgentLease} {r : Nat}
    (hslot : s.slot h.slot = ⟨h.generation, .held l r⟩) (n : BitVec 16) : s.serveRenew l.owner h n = s.renewHeld h l n := by
  have hcurrent := State.handleCurrent_of_slot hslot rfl
  simp [State.serveRenew, hcurrent, hslot, SlotState.ownedBy, SlotState.lease?]

/-- A RENEW passes every test of R84. -/
theorem State.renewRefusal_eq_none {s : State} {l : AgentLease} (hbarred : s.standing l.owner ≠ .barred)
    (hsweep : ¬ s.SweepMatches l.owner l.range) (hbudget : l.budget ≠ 0)
    (hyield : s.yieldFlag = false ∨ s.NoWaiterAgainst l.claim) : s.renewRefusal l.owner l = none := by
  rw [← State.matchesLease_iff] at hsweep
  rw [← State.waitedAgainst_eq_false_iff] at hyield
  rw [State.renewRefusal, if_neg hbarred, if_neg hsweep, if_neg hbudget,
    if_neg (Bool.not_eq_true _ ▸ Bool.and_eq_false_iff.2 hyield)]

/-- Settles O17. -/
theorem renewRestartsTheTerm : Obligations.RenewRestartsTheTerm := by
  rintro s a w0 w1 w2 w3 h l r term rfl hreq hslot rfl hbarred hsweep hbudget hyield rfl
  change Host.Outcome.next _ = _
  rw [State.takeRequest_of_requesting hreq, State.serveRenew_of_held hslot, State.renewHeld,
    State.renewRefusal_eq_none hbarred hsweep hbudget hyield, AgentLease.withTerm_eq]
  simp only [State.renewLease, State.setSlotState, hslot, wordOf_toNat]
  rfl

/-! ### RELEASE (R32, R47, R86) -/

theorem State.serveRelease_of_stale {s : State} (a : AgentNo) {h : Handle} (hs : s.HandleStale h) :
    s.serveRelease a h = (s, .named .stale h.bits) := by
  simp [State.serveRelease, State.handleCurrent_of_stale hs]

theorem State.serveRelease_of_other {s : State} {a : AgentNo} {h : Handle} (ho : s.HandleOfOther a h) :
    s.serveRelease a h = (s, .named .notOwner h.bits) := by
  obtain ⟨hcurrent, hown⟩ := State.of_handleOfOther ho
  simp [State.serveRelease, hcurrent, hown]

/-- What a RELEASE of the agent's own lease does, by the state found (R86). -/
theorem State.serveRelease_of_own {s : State} {h : Handle} {l : AgentLease} {r : Nat} :
    (s.slot h.slot = ⟨h.generation, .held l r⟩ →
      s.serveRelease l.owner h = (((s.freeSlot h.slot).credit l.owner).grantPass, .named .released h.bits)) ∧
    (s.slot h.slot = ⟨h.generation, .lapsed l r⟩ →
      s.serveRelease l.owner h = ((s.freeSlot h.slot).grantPass, .named .late h.bits)) ∧
    (s.slot h.slot = ⟨h.generation, .revoked l r⟩ →
      s.serveRelease l.owner h = ((s.freeSlot h.slot).grantPass, .named .revoked h.bits)) := by
  refine ⟨fun hslot => ?_, fun hslot => ?_, fun hslot => ?_⟩
  all_goals
    have hcurrent := State.handleCurrent_of_slot hslot rfl
    simp [State.serveRelease, hcurrent, hslot, SlotState.ownedBy, SlotState.lease?]

theorem State.freeSlot_of_slot {s : State} {k : SlotNo} {g : BitVec 8} {x : SlotState} (hslot : s.slot k = ⟨g, x⟩)
    (hx : x ≠ .free) : s.freeSlot k = { s with slots := s.slots.set k ⟨g + 1, .free⟩ } := by
  rw [State.freeSlot_of_ne_free (by rwa [hslot]), hslot]

theorem exec_release {s : State} {a : AgentNo} {w0 : Word} (hreq : s.Requesting a w0 (some .release)) (w1 w2 w3 : Word) :
    exec (.release w1 w2 w3) s =
      .next ((s.serveRelease a (handleOf w1)).1.withAnswer a (s.serveRelease a (handleOf w1)).2) :=
  congrArg Host.Outcome.next (State.takeRequest_of_requesting hreq _)

/-- Settles O18, by the handle and then by the state found. -/
theorem releaseFreesTheSlot : Obligations.ReleaseFreesTheSlot := by
  rintro s a w0 w1 w2 w3 h u rfl hreq rfl
  rw [exec_release hreq]
  refine ⟨fun hs => ?_, fun ho => ?_, ?_⟩
  · rw [State.serveRelease_of_stale a hs]
    rfl
  · rw [State.serveRelease_of_other ho]
    rfl
  · rintro l r rfl
    obtain ⟨hheld, hlapsed, hrevoked⟩ := State.serveRelease_of_own (s := s) (h := handleOf w1) (l := l) (r := r)
    refine ⟨fun hslot => ?_, fun hslot => ?_, fun hslot => ?_⟩
    · rw [hheld hslot, State.freeSlot_of_slot hslot nofun]
      rfl
    · rw [hlapsed hslot, State.freeSlot_of_slot hslot nofun]
      rfl
    · rw [hrevoked hslot, State.freeSlot_of_slot hslot nofun]
      rfl

/-! ### Tickets (R92, R103) -/

theorem State.ticketCurrent_iff (s : State) (t : Ticket) : s.ticketCurrent t = true ↔ ¬ s.TicketStale t := by
  rw [State.TicketStale, ← CellState.isEmpty_iff]
  simp [State.ticketCurrent]

theorem State.ticketCurrent_of_stale {s : State} {t : Ticket} (hs : s.TicketStale t) : s.ticketCurrent t = false :=
  Bool.eq_false_of_not_eq_true fun hc => (s.ticketCurrent_iff t).1 hc hs

theorem State.ticketCurrent_of_cell {s : State} {t : Ticket} {x : CellState} (hcell : s.cell t.cell = ⟨t.generation, x⟩)
    (hx : x ≠ .empty) : s.ticketCurrent t = true := by
  rw [State.ticketCurrent_iff, State.TicketStale, hcell]
  simp [hx]

/-- A current ticket of another agent's entry passes the first test and fails the second (R103). -/
theorem State.of_ticketOfOther {s : State} {a : AgentNo} {t : Ticket} (ho : s.TicketOfOther a t) :
    s.ticketCurrent t = true ∧ (s.cell t.cell).state.ownedBy a = false := by
  obtain ⟨hgeneration, e, he, howner⟩ := ho
  rw [Option.mem_def] at he
  rw [State.ticketCurrent_iff, State.TicketStale, CellState.eq_empty_iff_entry]
  simp [hgeneration, he, CellState.ownedBy, howner]

/-! ### POLL (R36, R103 to R106) -/

theorem State.servePoll_of_stale {s : State} (a : AgentNo) {t : Ticket} (hs : s.TicketStale t) :
    s.servePoll a t = (s, .named .stale t.bits) := by
  simp [State.servePoll, State.ticketCurrent_of_stale hs]

theorem State.servePoll_of_other {s : State} {a : AgentNo} {t : Ticket} (ho : s.TicketOfOther a t) :
    s.servePoll a t = (s, .named .notOwner t.bits) := by
  obtain ⟨hcurrent, hown⟩ := State.of_ticketOfOther ho
  simp [State.servePoll, hcurrent, hown]

theorem State.servePoll_of_waiting {s : State} {t : Ticket} {e : WaitEntry} {r : Reason} {w : Option Nat}
    (hcell : s.cell t.cell = ⟨t.generation, .waiting e r w⟩) :
    s.servePoll e.agent t = (s, ⟨.waiting, t.bits, wordOf (s.position t.cell)⟩) := by
  simp [State.servePoll, State.ticketCurrent_of_cell hcell nofun, hcell, CellState.ownedBy, CellState.entry?]

theorem State.servePoll_of_granted {s : State} {t : Ticket} {e : WaitEntry} {left : Nat} {k : SlotNo}
    (hcell : s.cell t.cell = ⟨t.generation, .granted e left k⟩) :
    s.servePoll e.agent t =
      ((s.collectSlot k).emptyCell t.cell, ⟨.granted, (s.handleAt k).bits, wordOf e.term.toNat⟩) := by
  simp [State.servePoll, State.ticketCurrent_of_cell hcell nofun, hcell, CellState.ownedBy, CellState.entry?]

theorem State.servePoll_of_ended {s : State} {t : Ticket} {e : WaitEntry} {o : Ending} {left : Nat}
    (hcell : s.cell t.cell = ⟨t.generation, .ended e o left⟩) :
    s.servePoll e.agent t = (s.emptyCell t.cell, .named o.answer t.bits) := by
  simp [State.servePoll, State.ticketCurrent_of_cell hcell nofun, hcell, CellState.ownedBy, CellState.entry?]

theorem State.collectSlot_of_reserved {s : State} {k : SlotNo} {l : AgentLease} {c : CellNo}
    (h : (s.slot k).state = .reserved l c) :
    s.collectSlot k = s.setSlotState k (.held { l with budget := l.allowance } (units l.term.toNat)) := by
  simp [State.collectSlot, h]

theorem State.emptyCell_of_cell {s : State} {c : CellNo} {g : BitVec 8} {x : CellState} (hcell : s.cell c = ⟨g, x⟩)
    (hx : x ≠ .empty) : s.emptyCell c = { s with cells := s.cells.set c ⟨g + 1, .empty⟩, order := s.order.filter (· != c) } := by
  rw [State.emptyCell_of_ne_empty (by rwa [hcell]), hcell]

theorem exec_poll {s : State} {a : AgentNo} {w0 : Word} (hreq : s.Requesting a w0 (some .poll)) (w1 w2 w3 : Word) :
    exec (.poll w1 w2 w3) s = .next ((s.servePoll a (ticketOf w1)).1.withAnswer a (s.servePoll a (ticketOf w1)).2) :=
  congrArg Host.Outcome.next (State.takeRequest_of_requesting hreq _)

/-- A POLL of a finished entry is answered with its outcome, and empties its cell (R106). -/
theorem exec_poll_of_ended {s : State} {w0 w1 : Word} {t : Ticket} {e : WaitEntry} {o : Ending} {left : Nat}
    (ht : t = ticketOf w1) (hreq : s.Requesting e.agent w0 (some .poll)) (hcell : s.cell t.cell = ⟨t.generation, .ended e o left⟩)
    (w2 w3 : Word) :
    exec (.poll w1 w2 w3) s = .next
      (State.withAnswer
        { s with cells := s.cells.set t.cell ⟨t.generation + 1, .empty⟩, order := s.order.filter (· != t.cell) }
        e.agent ⟨o.answer, t.bits, 0⟩) := by
  subst ht
  rw [exec_poll hreq, State.servePoll_of_ended hcell, State.emptyCell_of_cell hcell nofun]
  rfl

/-- Settles O19, by the ticket and then by the state of its entry. -/
theorem pollReportsAndCollects : Obligations.PollReportsAndCollects := by
  rintro s a w0 w1 w2 w3 t u rfl hreq rfl
  refine ⟨fun hs => ?_, fun ho => ?_, ?_⟩
  · rw [exec_poll hreq, State.servePoll_of_stale a hs]
    rfl
  · rw [exec_poll hreq, State.servePoll_of_other ho]
    rfl
  · rintro e rfl
    refine ⟨fun r left hcell => ?_, fun left k l hcell hslot => ?_, fun left hcell => exec_poll_of_ended rfl hreq hcell w2 w3,
      fun left hcell => exec_poll_of_ended rfl hreq hcell w2 w3, fun left hcell => exec_poll_of_ended rfl hreq hcell w2 w3⟩
    · rw [exec_poll hreq, State.servePoll_of_waiting hcell]
      rfl
    · have hheld : (s.collectSlot k).cell (ticketOf w1).cell = ⟨(ticketOf w1).generation, .granted e left k⟩ := by
        rw [State.collectSlot_of_reserved hslot]
        exact hcell
      rw [exec_poll hreq, State.servePoll_of_granted hcell, State.emptyCell_of_cell hheld nofun,
        State.collectSlot_of_reserved hslot, wordOf_toNat]
      rfl

end Sys2Proof.Machine
end

section
/-! SUPPORT. Commands and events on whole records: fences, REVOKE, CANCEL_TICKET, visits, CLEAR_ALL, CLEAR_AGENT and the detach
event (R44, R48 to R51, R112 to R114, R121, R136, R149, R154 to R157, R170 to R175, R182). -/

namespace Sys2Proof.Machine

/-- A host command outside RESET (R163, R183). -/
theorem next_unlessReset {s : State} (hr : s.resetHeld = false) (f : State → State) :
    (Host.Outcome.next (s.unlessReset f) : Host.Outcome State Fault Refusal) = .next (f s) :=
  congrArg _ (State.unlessReset_of_running hr f)

/-! ### FENCE_SET and FENCE_CLEAR (R48, R49, R170, R172) -/

theorem State.leaseOn_eq_false_iff (s : State) (r : GranuleRange) :
    s.leaseOn r = false ↔ ∀ k l, (s.slot k).state.holding? = some l → l.range.intersects r = false := by
  simp only [State.leaseOn, State.slot, List.any_eq_false, Vector.mem_toList_iff, Vector.mem_iff_getElem, Option.any_eq_true,
    not_exists, not_and, Bool.not_eq_true]
  constructor
  · intro h k l hl
    exact h _ ⟨k.val, k.isLt, rfl⟩ l hl
  · rintro h _ ⟨i, hi, rfl⟩ l hl
    exact h ⟨i, hi⟩ l hl

theorem State.leaseOn_of_holder {s : State} {r : GranuleRange}
    (h : ∃ k l, (s.slot k).state.holding? = some l ∧ l.range.intersects r = true) : s.leaseOn r = true := by
  obtain ⟨k, l, hl, hr⟩ := h
  refine Bool.eq_true_of_not_eq_false fun hfalse => ?_
  rw [(s.leaseOn_eq_false_iff r).1 hfalse k l hl] at hr
  cases hr

theorem State.wellFormed_iff (s : State) (r : GranuleRange) : r.wellFormed s.largestGranule = true ↔ s.WellFormedRange r := by
  simp [GranuleRange.wellFormed]

theorem State.setFence_of_malformed {s : State} {r : GranuleRange} (h : ¬ s.WellFormedRange r) :
    s.setFence r = s.conclude .badArgument := by
  rw [← State.wellFormed_iff, Bool.not_eq_true] at h
  simp [State.setFence, h]

theorem State.setFence_of_inUse {s : State} {r : GranuleRange} (hw : s.WellFormedRange r) (h : s.leaseOn r = true) :
    s.setFence r = s.conclude .inUse := by
  simp [State.setFence, (s.wellFormed_iff r).2 hw, h]

/-- Past its first two tests FENCE_SET looks for a FREE slot (R170). -/
theorem State.setFence_of_clear {s : State} {r : GranuleRange} (hw : s.WellFormedRange r) (h : s.leaseOn r = false) :
    (s.TableFull → s.setFence r = s.conclude .tableFull) ∧
    ∀ k, s.LowestFreeIs k → s.setFence r = (s.setSlotState k (.fence r)).finish .done (s.handleAt k).word 0 := by
  refine ⟨fun hfull => ?_, fun k hk => ?_⟩
  · simp [State.setFence, (s.wellFormed_iff r).2 hw, h, s.lowestFree_eq_none_iff.2 hfull]
  · simp [State.setFence, (s.wellFormed_iff r).2 hw, h, (s.lowestFree_eq_some_iff k).2 hk]

theorem State.clearFence_of_fence {s : State} {h : Handle} {r : GranuleRange} (hslot : s.slot h.slot = ⟨h.generation, .fence r⟩) :
    s.clearFence h = (s.freeSlot h.slot).grantPass.conclude .done := by
  simp [State.clearFence, State.handleCurrent_of_slot hslot rfl, hslot]

theorem State.clearFence_of_not {s : State} {h : Handle} (hnot : ∀ r, s.slot h.slot ≠ ⟨h.generation, .fence r⟩) :
    s.clearFence h = s.conclude .stale := by
  unfold State.clearFence
  split
  · next r hst =>
    refine if_neg fun hcurrent => hnot r ?_
    have hgeneration : (s.slot h.slot).generation = h.generation := by
      by_contra hne
      exact (s.handleCurrent_iff h).1 hcurrent (.inl hne)
    rw [← hgeneration, ← hst]
  · rfl

/-- Settles O46, each command by its tests in order. -/
theorem fencesAreSetAndCleared : Obligations.FencesAreSetAndCleared := by
  refine ⟨?_, ?_⟩
  · rintro s r hr rfl
    have hexec : exec .fenceSet s = .next (s.setFence ⟨s.params[0], s.params[1]⟩) := next_unlessReset hr _
    rw [hexec]
    refine ⟨fun hw => congrArg _ (State.setFence_of_malformed hw), fun hfirst hlast => ⟨fun hin => ?_, fun hout => ?_⟩⟩
    · exact congrArg _ (State.setFence_of_inUse ⟨hfirst, hlast⟩ (State.leaseOn_of_holder hin))
    · obtain ⟨hfull, hset⟩ := State.setFence_of_clear ⟨hfirst, hlast⟩ ((s.leaseOn_eq_false_iff _).2 hout)
      exact ⟨fun h => congrArg _ (hfull h), fun k hk => congrArg _ (hset k hk)⟩
  · rintro s h hr rfl
    have hexec : exec .fenceClear s = .next (s.clearFence (handleOf s.params[0])) := next_unlessReset hr _
    rw [hexec]
    refine ⟨fun r hslot => ?_, fun hnot => congrArg _ (State.clearFence_of_not hnot)⟩
    rw [State.clearFence_of_fence hslot, State.freeSlot_of_slot hslot nofun]
    rfl

/-! ### REVOKE and CANCEL_TICKET (R44, R97, R112, R173 to R175) -/

/-- The withdrawal of a grant by the host or a sweep: the RESERVED slot is freed, and its entry CANCELLED with the window running
on (R112). -/
theorem State.cancelGrant_freeSlot {s : State} {k : SlotNo} {l : AgentLease} {c : CellNo} {e : WaitEntry} {left : Nat}
    (hslot : (s.slot k).state = .reserved l c) (hcell : (s.cell c).state = .granted e left k) :
    (s.freeSlot k).cancelGrant c =
      { s with
        slots := s.slots.set k ⟨(s.slot k).generation + 1, .free⟩
        cells := s.cells.set c ⟨(s.cell c).generation, .ended e .cancelled left⟩ } := by
  have hfree : s.freeSlot k = { s with slots := s.slots.set k ⟨(s.slot k).generation + 1, .free⟩ } :=
    State.freeSlot_of_ne_free (by simp [hslot])
  have hcell' : ((s.freeSlot k).cell c).state = .granted e left k := hcell
  have hcancel : (s.freeSlot k).cancelGrant c = (s.freeSlot k).setCellState c (.ended e .cancelled left) := by
    simp [State.cancelGrant, hcell']
  rw [hcancel, hfree]
  rfl

theorem State.revokePair_of_stale {s : State} {h : Handle}
    (hs : (s.slot h.slot).generation ≠ h.generation ∨ (s.slot h.slot).state = .free ∨
      ∃ l r, (s.slot h.slot).state = .revoked l r) :
    s.revokePair h = s.conclude .stale := by
  obtain hgeneration | hst | ⟨l, r, hst⟩ := hs
  · exact if_neg hgeneration
  all_goals simp [State.revokePair, hst]

theorem State.cancelTicket_of_stale {s : State} {t : Ticket} (hs : s.TicketStale t) : s.cancelTicket t = s.conclude .stale := by
  simp [State.cancelTicket, State.ticketCurrent_of_stale hs]

/-- CANCEL_TICKET of a READY entry is IGNORED (R175). -/
theorem State.cancelTicket_of_ready {s : State} {t : Ticket} {x : CellState} (hcell : s.cell t.cell = ⟨t.generation, x⟩)
    (hx : (∃ e left k, x = .granted e left k) ∨ ∃ e o left, x = .ended e o left) : s.cancelTicket t = s.conclude .ignored := by
  obtain ⟨e, left, k, rfl⟩ | ⟨e, o, left, rfl⟩ := hx
  all_goals simp [State.cancelTicket, State.ticketCurrent_of_cell hcell nofun, hcell]

theorem State.cancelTicket_of_waiting {s : State} {t : Ticket} {e : WaitEntry} {r : Reason} {w : Option Nat}
    (hcell : s.cell t.cell = ⟨t.generation, .waiting e r w⟩) :
    s.cancelTicket t = (s.readyCell t.cell .cancelled).grantPass.finish .done (wordOf e.agent.val) 0 := by
  simp [State.cancelTicket, State.ticketCurrent_of_cell hcell nofun, hcell]

/-- Settles O47, each command by the state it finds. -/
theorem revokeAndCancelTicket : Obligations.RevokeAndCancelTicket := by
  refine ⟨?_, ?_⟩
  · rintro s h hr rfl
    have hexec : exec .revoke s = .next (s.revokePair (handleOf s.params[0])) := next_unlessReset hr _
    rw [hexec]
    refine ⟨fun hs => congrArg _ (State.revokePair_of_stale hs), fun r hslot => ?_, ?_, fun l c e left hslot hcell => ?_⟩
    · simp [State.revokePair, hslot, State.conclude]
    · rintro l r u rfl
      refine ⟨fun hslot => ?_, fun hslot => ?_⟩
      all_goals
        simp only [State.revokePair, hslot, if_true, State.revokeLease, State.setSlotState]
        rfl
    · have hst : (s.slot (handleOf s.params[0]).slot).state = .reserved l c := by rw [hslot]
      have hfreed := State.cancelGrant_freeSlot hst hcell
      simp only [hslot] at hfreed
      simp only [State.revokePair, hslot, if_true, hfreed]
      rfl
  · rintro s t hr rfl
    have hexec : exec .cancelTicket s = .next (s.cancelTicket (ticketOf s.params[0])) := next_unlessReset hr _
    rw [hexec]
    refine ⟨fun hs => congrArg _ (State.cancelTicket_of_stale hs), fun e left k hcell => ?_, fun e o left hcell => ?_,
      fun e r left hcell => ?_⟩
    · exact congrArg _ (State.cancelTicket_of_ready hcell (.inl ⟨e, left, k, rfl⟩))
    · exact congrArg _ (State.cancelTicket_of_ready hcell (.inr ⟨e, o, left, rfl⟩))
    · rw [State.cancelTicket_of_waiting hcell, State.readyCell_of_waiting (by rw [hcell]), State.setCellState, hcell]
      rfl

/-! ### Visits (R154 to R157) -/

theorem execVisit_of_inProgress {s : State} {k : SlotNo} (hs : s.sweep.status = .inProgress) (hn : s.sweep.nextSlot = k.val) :
    execVisit s = .next (s.visitSlot k) := by
  have hlt : s.sweep.nextSlot < 128 := hn ▸ k.isLt
  have hk : (⟨s.sweep.nextSlot, hlt⟩ : SlotNo) = k := Fin.ext hn
  simp only [execVisit, if_pos hs, dif_pos hlt, hk]

/-- The model's action of a visit is the one R155 describes. -/
theorem State.visitAction_of_acts {s u : State} {k : SlotNo} {n : Nat} {pass : Bool} (h : s.VisitActs k u n pass) :
    s.visitAction k = (u, pass, n) := by
  obtain ⟨l, r, hst, hmatch, rfl, rfl, rfl⟩ | ⟨l, c, e, left, hst, hcell, hmatch, rfl, rfl, rfl⟩ | ⟨hnone, rfl, rfl, rfl⟩ := h
  · rw [← State.matchesLease_iff] at hmatch
    obtain hst | hst := hst
    all_goals
      simp only [State.visitAction, hst, if_pos hmatch]
      rfl
  · rw [← State.matchesLease_iff] at hmatch
    simp only [State.visitAction, hst, if_pos hmatch, State.cancelGrant_freeSlot hst hcell]
  · simp only [← State.matchesLease_iff] at hnone
    cases hst : (u.slot k).state with
    | held l r | lapsed l r | reserved l c =>
      have hl := hnone l (by rw [hst]; rfl)
      simp only [State.visitAction, hst, if_neg hl]
    | _ => simp only [State.visitAction, hst]

/-- Settles O37. -/
theorem visitsRevokeMatchedLeases : Obligations.VisitsRevokeMatchedLeases := by
  refine ⟨fun s hs => congrArg _ (if_neg hs), ?_⟩
  rintro s k u v n pass hs hn hacts rfl
  have haction := State.visitAction_of_acts hacts
  have hsweep : u.sweep = s.sweep := by
    have h := (changes_visitAction s k).2.1
    rwa [haction] at h
  change (_ → _ → execVisit s = _) ∧ (_ → _ → execVisit s = _) ∧ (_ → execVisit s = _)
  rw [execVisit_of_inProgress hs hn, State.visitSlot, haction, hsweep]
  refine ⟨?_, ?_, fun hlast => ?_⟩
  · rintro hlt rfl
    simp only [if_neg (Nat.ne_of_lt hlt)]
    rfl
  · rintro hlt rfl
    simp only [if_neg (Nat.ne_of_lt hlt)]
    rfl
  · simp only [if_pos hlast]
    rfl

/-! ### CLEAR_ALL and CLEAR_AGENT (R51, R114, R136, R149, R182, R187) -/

theorem LeaseSlot.freed_of_free {x : LeaseSlot} (h : x.state = .free) : x.freed = x := if_pos (x.state.isFree_iff.2 h)

theorem WaitCell.emptied_of_empty {x : WaitCell} (h : x.state = .empty) : x.emptied = x := if_pos (x.state.isEmpty_iff.2 h)

theorem State.slot_cleared (s : State) (k : SlotNo) : s.cleared.slot k = (s.slot k).freed :=
  s.slot_freeSlotsWhere (fun _ => true) k

theorem State.cell_cleared (s : State) (c : CellNo) : s.cleared.cell c = (s.cell c).emptied :=
  (s.freeSlotsWhere fun _ => true).cell_emptyCellsWhere (fun _ => true) c

theorem State.order_cleared (s : State) : s.cleared.order = [] := List.filter_false s.order

/-- After CLEAR_ALL nobody waits, and its grant pass grants nothing (R182). -/
theorem State.grantPass_cleared (s : State) : s.cleared.grantPass = s.cleared := by
  rw [State.grantPass, State.order_cleared, grantWalk]

theorem State.agent_cleared (s : State) (a : AgentNo) : s.cleared.agent a = (s.agent a).cleared := by
  simp [State.cleared, State.agent]

theorem SweepRecord.interruptedByClear_of_inProgress {r : SweepRecord} (h : r.status = .inProgress) :
    r.interruptedByClear = { r with status := .interrupted } := by
  simp [SweepRecord.interruptedByClear, h]

theorem SweepRecord.interruptedByClear_of_not {r : SweepRecord} (h : r.status ≠ .inProgress) : r.interruptedByClear = r := by
  unfold SweepRecord.interruptedByClear
  split
  · next hs => exact absurd hs h
  · rfl

theorem exec_clearAll {s : State} (hr : s.resetHeld = false) : exec .clearAll s = .next (s.cleared.conclude .done) :=
  (next_unlessReset hr _).trans (by rw [State.grantPass_cleared])

theorem State.presentAgent_eq_none {s : State} (h : ∀ a : AgentNo, s.params[0].toNat = a.val → s.port a = .absent) :
    s.presentAgent = none := by
  unfold State.presentAgent numberOf
  by_cases hlt : s.params[0].toNat < 32
  · simp [hlt, h ⟨_, hlt⟩ rfl]
  · simp [hlt]

/-- Settles O42. -/
theorem clearingCommands : Obligations.ClearingCommands := by
  refine ⟨fun s hr => ⟨_, exec_clearAll hr, ?_, fun k => ⟨fun h => ?_, fun h => ?_⟩, fun c => ⟨fun h => ?_, fun h => ?_⟩,
    s.agent_cleared, fun n => ?_, SweepRecord.interruptedByClear_of_inProgress, SweepRecord.interruptedByClear_of_not⟩,
    fun s hr => ⟨fun habsent => ?_, ?_⟩⟩
  · rw [← s.order_cleared]
    rfl
  · exact (s.slot_cleared k).trans (LeaseSlot.freed_of_free h)
  · exact (s.slot_cleared k).trans (LeaseSlot.freed_of_ne_free h)
  · exact (s.cell_cleared c).trans (WaitCell.emptied_of_empty h)
  · exact (s.cell_cleared c).trans (WaitCell.emptied_of_ne_empty h)
  · simp [State.cleared, State.conclude, State.finish]
  · refine (next_unlessReset hr _).trans ?_
    rw [State.clearAgentCommand, State.presentAgent_eq_none habsent]
    rfl
  · rintro a u hnumber hport rfl
    refine (next_unlessReset hr _).trans ?_
    rw [State.clearAgentCommand, State.presentAgent_of_present hnumber hport]
    rfl

/-! ### The detach event (R50, R65, R113, R120, R121) -/

/-- The detach event before its grant pass (R121). -/
def State.detachedBeforePass (s : State) (a : AgentNo) : State :=
  (((s.endTenureOf a).freeSlotsWhere fun x => x.ownedBy a).emptyCellsWhere fun x => x.ownedBy a).raise .agentDetached a.val

theorem State.endTenureOf_frame (s : State) (a : AgentNo) : s.endTenureOf a = { s with tenure := (s.endTenureOf a).tenure } := by
  unfold State.endTenureOf
  split
  · split <;> rfl
  · rfl

theorem State.endTenureOf_of_agent {s : State} {a : AgentNo} {p : TenurePhase} (h : s.tenure = some ⟨a, p⟩) :
    (s.endTenureOf a).tenure = none := by
  simp [State.endTenureOf, h]

theorem State.endTenureOf_of_not {s : State} {a : AgentNo} (h : ∀ p, s.tenure ≠ some ⟨a, p⟩) : s.endTenureOf a = s := by
  unfold State.endTenureOf
  split
  · next t ht => exact if_neg fun ha => h t.phase (by rw [ht, ← ha])
  · rfl

theorem SlotState.ne_free_of_ownedBy {x : SlotState} {a : AgentNo} (h : x.ownedBy a = true) : x ≠ .free := by
  rintro rfl
  cases h

theorem CellState.ne_empty_of_ownedBy {x : CellState} {a : AgentNo} (h : x.ownedBy a = true) : x ≠ .empty := by
  rintro rfl
  cases h

theorem State.slot_endTenureOf (s : State) (a : AgentNo) (k : SlotNo) : (s.endTenureOf a).slot k = s.slot k :=
  State.slot_congr (by rw [State.endTenureOf_frame]) k

theorem State.cell_endTenureOf (s : State) (a : AgentNo) (c : CellNo) : (s.endTenureOf a).cell c = s.cell c :=
  State.cell_congr (by rw [State.endTenureOf_frame]) c

theorem State.slot_detachedBeforePass (s : State) (a : AgentNo) (k : SlotNo) :
    (s.detachedBeforePass a).slot k =
      if (s.slot k).state.ownedBy a = true then ⟨(s.slot k).generation + 1, .free⟩ else s.slot k := by
  refine ((s.endTenureOf a).slot_freeSlotsWhere (fun x => x.ownedBy a) k).trans ?_
  rw [State.slot_endTenureOf]
  split
  · next h => exact LeaseSlot.freed_of_ne_free (SlotState.ne_free_of_ownedBy h)
  · rfl

theorem State.cell_detachedBeforePass (s : State) (a : AgentNo) (c : CellNo) :
    (s.detachedBeforePass a).cell c =
      if (s.cell c).state.ownedBy a = true then ⟨(s.cell c).generation + 1, .empty⟩ else s.cell c := by
  refine (State.cell_emptyCellsWhere ((s.endTenureOf a).freeSlotsWhere fun x => x.ownedBy a) (fun x => x.ownedBy a) c).trans ?_
  change (if ((s.endTenureOf a).cell c).state.ownedBy a then ((s.endTenureOf a).cell c).emptied else (s.endTenureOf a).cell c) = _
  rw [State.cell_endTenureOf]
  split
  · next h => exact WaitCell.emptied_of_ne_empty (CellState.ne_empty_of_ownedBy h)
  · rfl

theorem State.tenure_detachedBeforePass (s : State) (a : AgentNo) :
    (s.detachedBeforePass a).tenure = (s.endTenureOf a).tenure := rfl

theorem State.detachedBeforePass_frame (s : State) (a : AgentNo) :
    s.detachedBeforePass a =
      { s with
        tenure := (s.detachedBeforePass a).tenure
        slots := (s.detachedBeforePass a).slots
        cells := (s.detachedBeforePass a).cells
        order := s.order.filter fun c => !(s.cell c).state.ownedBy a
        sources := (s.raise .agentDetached a.val).sources } := by
  unfold State.detachedBeforePass
  rw [State.endTenureOf_frame]
  rfl

/-- An agent without slots and entries gets none in a grant pass (R100). -/
theorem State.ownsNothing_grantPass {s : State} {a : AgentNo} (hslots : ∀ k, (s.slot k).state.ownedBy a = false)
    (hcells : ∀ c, (s.cell c).state.ownedBy a = false) :
    (∀ k, (s.grantPass.slot k).state.ownedBy a = false) ∧ ∀ c, (s.grantPass.cell c).state.ownedBy a = false := by
  have hpass := s.grantPass_grantsOnly
  have hentry {c : CellNo} {e : WaitEntry} {x : Reason} {left : Option Nat} (h : (s.cell c).state = .waiting e x left) :
      (e.agent == a) = false := by
    have hc := hcells c
    rw [h] at hc
    exact hc
  refine ⟨fun k => ?_, fun c => ?_⟩
  · obtain h | ⟨c, e, x, left, _, hwait, h, _⟩ := hpass.slot k
    · rw [h]
      exact hslots k
    · rw [h]
      exact hentry hwait
  · obtain h | ⟨k, e, x, left, _, hwait, _, h⟩ := hpass.cell c
    · rw [h]
      exact hcells c
    · rw [h]
      exact hentry hwait

theorem State.ownedSlots_eq_zero {s : State} {a : AgentNo} (h : ∀ k, (s.slot k).state.ownedBy a = false) :
    s.ownedSlots a = 0 := by
  simp only [State.ownedSlots, List.countP_eq_zero, Vector.mem_toList_iff, Vector.mem_iff_getElem, Bool.not_eq_true]
  rintro _ ⟨i, hi, rfl⟩
  exact h ⟨i, hi⟩

theorem State.ticketCount_eq_zero {s : State} {a : AgentNo} (h : ∀ c, (s.cell c).state.ownedBy a = false) :
    s.ticketCount a = 0 := by
  simp only [State.ticketCount, List.countP_eq_zero, Vector.mem_toList_iff, Vector.mem_iff_getElem, Bool.not_eq_true]
  rintro _ ⟨i, hi, rfl⟩
  exact h ⟨i, hi⟩

theorem State.detachedBeforePass_ownsNothing (s : State) (a : AgentNo) :
    (∀ k, ((s.detachedBeforePass a).slot k).state.ownedBy a = false) ∧
      ∀ c, ((s.detachedBeforePass a).cell c).state.ownedBy a = false := by
  refine ⟨fun k => ?_, fun c => ?_⟩
  · rw [State.slot_detachedBeforePass]
    split
    · rfl
    · next h => exact Bool.eq_false_of_not_eq_true h
  · rw [State.cell_detachedBeforePass]
    split
    · rfl
    · next h => exact Bool.eq_false_of_not_eq_true h

theorem getLsbD_setLine_low (lines : Word) (a b : AgentNo) :
    (setLine lines a false).getLsbD b.val = (decide (b ≠ a) && lines.getLsbD b.val) := by
  rw [getLsbD_setLine]
  by_cases h : a = b
  · simp [h]
  · simp [h, Ne.symm h]

theorem State.port_eq_detached {s t : State} {a : AgentNo} (hs : s.port a = .attached) (hcode : t.agentsCode = s.agentsCode)
    (hline : t.attach.getLsbD a.val = false) : t.port a = .detached := by
  unfold State.port State.portCount at hs ⊢
  rw [hcode]
  split at hs
  · cases hs
  · next h => rw [if_neg h, hline]; rfl

/-- The state with the agent's ATTACH line low (R58, R121). -/
def State.lineLowered (s : State) (a : AgentNo) : State := { s with attach := setLine s.attach a false }

theorem exec_detach_of_notAttached {s : State} {a : AgentNo} (h : s.port a ≠ .attached) :
    exec (.detach a) s = .next (s.lineLowered a) := congrArg Host.Outcome.next (if_neg h)

theorem exec_detach_of_attached {s : State} {a : AgentNo} (hr : s.resetHeld = false) (h : s.port a = .attached) :
    exec (.detach a) s = .next ((s.lineLowered a).detachedBeforePass a).grantPass :=
  congrArg Host.Outcome.next ((if_pos h).trans (State.unlessReset_of_running (s := s.lineLowered a) hr _))

/-- Settles O7. -/
theorem detachFreesAndEmpties : Obligations.DetachFreesAndEmpties := by
  refine fun s a => ⟨fun hport => ⟨_, exec_detach_of_notAttached hport, rfl, getLsbD_setLine_low s.attach a⟩, fun hr hport => ?_⟩
  refine ⟨_, exec_detach_of_attached hr hport, ?_⟩
  have hframe := (s.lineLowered a).detachedBeforePass_frame a
  obtain ⟨hslots, hcells⟩ := (s.lineLowered a).detachedBeforePass_ownsNothing a
  obtain ⟨hgone, hempty⟩ := State.ownsNothing_grantPass hslots hcells
  have hattach : ((s.lineLowered a).detachedBeforePass a).attach = setLine s.attach a false := by rw [hframe]; rfl
  have hcode : ((s.lineLowered a).detachedBeforePass a).agentsCode = s.agentsCode := by rw [hframe]; rfl
  have hlines (b : AgentNo) :
      ((s.lineLowered a).detachedBeforePass a).attach.getLsbD b.val = (decide (b ≠ a) && s.attach.getLsbD b.val) := by
    rw [hattach, getLsbD_setLine_low]
  refine ⟨hattach.symm ▸ hframe, hlines, State.port_eq_detached hport hcode (by rw [hlines]; simp), fun p hp => ?_, fun hp => ?_,
    (s.lineLowered a).slot_detachedBeforePass a, (s.lineLowered a).cell_detachedBeforePass a, State.ownedSlots_eq_zero hgone,
    State.ticketCount_eq_zero hempty⟩
  · rw [State.tenure_detachedBeforePass]
    exact State.endTenureOf_of_agent hp
  · rw [State.tenure_detachedBeforePass, State.endTenureOf_of_not (s := s.lineLowered a) hp]
    rfl

end Sys2Proof.Machine
end

section
/-! SUPPORT. Who occupies a slot or a cell across a command, and how RESERVED slots and granted entries stay paired (R26, R28,
R35, R91, R92). A command first vacates some slots and cells and keeps the names in the others; what it fills, it fills after that. -/

namespace Sys2Proof.Machine

/-! ### Names, reservations and grants -/

/-- The owner, mode and range of a slot's record, where it has them (R26). -/
def SlotState.names (x : SlotState) : Option Owner × Option ClaimMode × Option GranuleRange := (x.owner?, x.mode?, x.range?)

theorem SlotState.eq_free_iff_names (x : SlotState) : x = .free ↔ x.names = (none, none, none) := by
  cases x <;> simp [SlotState.names, SlotState.owner?, SlotState.mode?, SlotState.range?, SlotState.lease?]

/-- What a RESERVED slot pairs with: its lease and the cell it is linked to (R35). -/
def SlotState.reservation? : SlotState → Option (AgentLease × CellNo)
  | .reserved l c => some (l, c)
  | _ => none

/-- What a READY entry with outcome GRANTED pairs with: the entry and its slot (R35). -/
def CellState.grant? : CellState → Option (WaitEntry × SlotNo)
  | .granted e _ k => some (e, k)
  | _ => none

theorem SlotState.reservation?_eq_some_iff (x : SlotState) (l : AgentLease) (c : CellNo) :
    x.reservation? = some (l, c) ↔ x = .reserved l c := by
  cases x <;> simp [SlotState.reservation?]

theorem CellState.grant?_eq_some_iff (x : CellState) (e : WaitEntry) (k : SlotNo) :
    x.grant? = some (e, k) ↔ ∃ left, x = .granted e left k := by
  cases x <;> simp [CellState.grant?]

theorem State.reservation?_setSlot (s : State) (k j : SlotNo) (x : LeaseSlot) :
    ((s.setSlot k x).slot j).state.reservation? = if k = j then x.state.reservation? else (s.slot j).state.reservation? := by
  rw [State.slot_setSlot]
  split <;> rfl

theorem State.reservation?_freeSlot (s : State) (k j : SlotNo) :
    ((s.freeSlot k).slot j).state.reservation? = if k = j then none else (s.slot j).state.reservation? :=
  (s.reservation?_setSlot k j _).trans (by rw [LeaseSlot.state_freed]; rfl)

theorem State.grant?_setCell (s : State) (c d : CellNo) (x : WaitCell) :
    ((s.setCell c x).cell d).state.grant? = if c = d then x.state.grant? else (s.cell d).state.grant? := by
  rw [State.cell_setCell]
  split <;> rfl

theorem State.grant?_emptyCell (s : State) (c d : CellNo) :
    ((s.emptyCell c).cell d).state.grant? = if c = d then none else (s.cell d).state.grant? := by
  rw [State.cell_emptyCell]
  split
  · rw [WaitCell.state_emptied]
    rfl
  · rfl

/-- The pairing law speaks of reservations and grants alone (R35). -/
theorem State.grantsPaired_iff (s : State) :
    s.GrantsPaired ↔
      (∀ k l c, (s.slot k).state.reservation? = some (l, c) → ∃ e, (s.cell c).state.grant? = some (e, k) ∧ l = e.lease) ∧
      ∀ c e k, (s.cell c).state.grant? = some (e, k) → (s.slot k).state.reservation? = some (e.lease, c) := by
  simp only [SlotState.reservation?_eq_some_iff, CellState.grant?_eq_some_iff]
  constructor
  · rintro ⟨hslots, hcells⟩
    refine ⟨fun k l c hk => ?_, fun c e k ⟨left, hc⟩ => hcells c e left k hc⟩
    obtain ⟨e, left, hc, hl⟩ := hslots k l c hk
    exact ⟨e, ⟨left, hc⟩, hl⟩
  · rintro ⟨hslots, hcells⟩
    refine ⟨fun k l c hk => ?_, fun c e left k hc => hcells c e k ⟨left, hc⟩⟩
    obtain ⟨e, ⟨left, hc⟩, hl⟩ := hslots k l c hk
    exact ⟨e, left, hc, hl⟩

/-- Pairs may go where both partners go: every reservation and every grant stays or goes, and of a pair both stay or both go. -/
theorem State.GrantsPaired.of_dropped {s t : State} (hs : s.GrantsPaired)
    (hslot : ∀ k, (t.slot k).state.reservation? = none ∨ (t.slot k).state.reservation? = (s.slot k).state.reservation?)
    (hcell : ∀ c, (t.cell c).state.grant? = none ∨ (t.cell c).state.grant? = (s.cell c).state.grant?)
    (hboth : ∀ k c e, (s.slot k).state.reservation? = some (e.lease, c) → (s.cell c).state.grant? = some (e, k) →
      ((t.slot k).state.reservation? = none ↔ (t.cell c).state.grant? = none)) : t.GrantsPaired := by
  rw [State.grantsPaired_iff] at hs ⊢
  obtain ⟨hslots, hcells⟩ := hs
  refine ⟨fun k l c hk => ?_, fun c e k hc => ?_⟩
  · have hold : (s.slot k).state.reservation? = some (l, c) := by
      obtain h | h := hslot k
      · rw [h] at hk; cases hk
      · rw [← h, hk]
    obtain ⟨e, hc, rfl⟩ := hslots k l c hold
    obtain h | h := hcell c
    · rw [(hboth k c e hold hc).2 h] at hk; cases hk
    · exact ⟨e, h.trans hc, rfl⟩
  · have hold : (s.cell c).state.grant? = some (e, k) := by
      obtain h | h := hcell c
      · rw [h] at hc; cases hc
      · rw [← h, hc]
    have hk := hcells c e k hold
    obtain h | h := hslot k
    · rw [(hboth k c e hk hold).1 h] at hc; cases hc
    · exact h.trans hk

/-- One pair goes: its slot is no longer RESERVED and its cell no longer granted, and every other slot and cell is as before. -/
theorem State.GrantsPaired.dropPair {s t : State} (hs : s.GrantsPaired) {k : SlotNo} {c : CellNo} {l : AgentLease}
    (hk : (s.slot k).state = .reserved l c)
    (hslot : ∀ j, (t.slot j).state.reservation? = if k = j then none else (s.slot j).state.reservation?)
    (hcell : ∀ d, (t.cell d).state.grant? = if c = d then none else (s.cell d).state.grant?) : t.GrantsPaired := by
  have hkc := (SlotState.reservation?_eq_some_iff _ _ _).2 hk
  refine hs.of_dropped (fun j => ?_) (fun d => ?_) fun j d e hj hd => ?_
  · rw [hslot]
    split
    · exact .inl rfl
    · exact .inr rfl
  · rw [hcell]
    split
    · exact .inl rfl
    · exact .inr rfl
  · obtain ⟨e', hc, rfl⟩ := ((s.grantsPaired_iff).1 hs).1 k l c hkc
    have hsame : k = j ↔ c = d := by
      constructor
      · rintro rfl
        exact (Prod.ext_iff.1 (Option.some.inj (hkc.symm.trans hj))).2
      · rintro rfl
        exact (Prod.ext_iff.1 (Option.some.inj (hc.symm.trans hd))).2
    rw [hslot, hcell, hj, hd]
    by_cases h : k = j
    · simp [h, hsame.1 h]
    · simp [h, mt hsame.2 h]

/-- A grant makes a pair of a FREE slot and a WAITING cell, which had no partners (R35, R100). -/
theorem State.GrantsPaired.grantEntry {s : State} (hs : s.GrantsPaired) {c : CellNo} {e : WaitEntry} {r : Reason} {w : Option Nat}
    {k : SlotNo} (hc : (s.cell c).state = .waiting e r w) (hk : (s.slot k).state = .free) :
    (s.grantEntry c e k).GrantsPaired := by
  obtain ⟨hslots, hcells⟩ := hs
  refine ⟨fun j l d hj => ?_, fun d o left j hd => ?_⟩
  · rw [State.slot_grantEntry] at hj
    rw [State.cell_grantEntry]
    split at hj
    · next hkj =>
      cases hj
      exact ⟨e, s.collectAmount, by rw [if_pos rfl, hkj], rfl⟩
    · obtain ⟨o, left, hd, hl⟩ := hslots j l d hj
      have hcd : c ≠ d := by
        rintro rfl
        rw [hc] at hd
        cases hd
      exact ⟨o, left, by rw [if_neg hcd, hd], hl⟩
  · rw [State.cell_grantEntry] at hd
    rw [State.slot_grantEntry]
    split at hd
    · next hcd =>
      cases hd
      rw [if_pos rfl, hcd]
    · have hj := hcells d o left j hd
      have hkj : k ≠ j := by
        rintro rfl
        rw [hk] at hj
        cases hj
      rw [if_neg hkj, hj]

theorem State.GrantsPaired.grantPass {s : State} (hs : s.GrantsPaired) : s.grantPass.GrantsPaired :=
  s.grantPass_induct State.GrantsPaired (fun _ _ _ _ _ _ ht hc hk _ => ht.grantEntry hc hk.1) hs

/-! ### What becomes of one slot and of one cell -/

/-- The slot keeps its generation and names, or takes the freeing step (R28, R32). -/
def LeaseSlot.KeptOrFreed (x y : LeaseSlot) : Prop :=
  (y.generation = x.generation ∧ y.state.names = x.state.names) ∨ (x.state ≠ .free ∧ y = ⟨x.generation + 1, .free⟩)

/-- The slot keeps its generation, and its names if it is occupied; a FREE slot may be filled. -/
def LeaseSlot.KeptOrFilled (x y : LeaseSlot) : Prop :=
  y.generation = x.generation ∧ (x.state ≠ .free → y.state.names = x.state.names)

/-- The slot is kept or filled, or its occupant has gone and the generation has advanced by one (R28). -/
def LeaseSlot.TurnedOver (x y : LeaseSlot) : Prop :=
  x.KeptOrFilled y ∨ (y.generation = x.generation + 1 ∧ x.state ≠ .free)

/-- The cell keeps its generation and entry, or takes the emptying step (R92, R96). -/
def WaitCell.KeptOrEmptied (x y : WaitCell) : Prop :=
  (y.generation = x.generation ∧ y.state.entry? = x.state.entry?) ∨ (x.state ≠ .empty ∧ y = ⟨x.generation + 1, .empty⟩)

/-- The cell keeps its generation, and its entry if it is occupied; an EMPTY cell may be filled. -/
def WaitCell.KeptOrFilled (x y : WaitCell) : Prop :=
  y.generation = x.generation ∧ (x.state ≠ .empty → y.state.entry? = x.state.entry?)

/-- The cell is kept or filled, or its entry has gone and the generation has advanced by one (R92). -/
def WaitCell.TurnedOver (x y : WaitCell) : Prop :=
  x.KeptOrFilled y ∨ (y.generation = x.generation + 1 ∧ x.state ≠ .empty)

theorem LeaseSlot.KeptOrFreed.refl (x : LeaseSlot) : x.KeptOrFreed x := .inl ⟨rfl, rfl⟩

theorem WaitCell.KeptOrEmptied.refl (x : WaitCell) : x.KeptOrEmptied x := .inl ⟨rfl, rfl⟩

theorem LeaseSlot.KeptOrFilled.refl (x : LeaseSlot) : x.KeptOrFilled x := ⟨rfl, fun _ => rfl⟩

theorem WaitCell.KeptOrFilled.refl (x : WaitCell) : x.KeptOrFilled x := ⟨rfl, fun _ => rfl⟩

theorem LeaseSlot.KeptOrFilled.of_free {x y : LeaseSlot} (hx : x.state = .free) (hy : y.generation = x.generation) :
    x.KeptOrFilled y := ⟨hy, fun h => absurd hx h⟩

theorem WaitCell.KeptOrFilled.of_empty {x y : WaitCell} (hx : x.state = .empty) (hy : y.generation = x.generation) :
    x.KeptOrFilled y := ⟨hy, fun h => absurd hx h⟩

theorem LeaseSlot.free_iff_of_names {x y : LeaseSlot} (h : y.state.names = x.state.names) :
    y.state = .free ↔ x.state = .free := by
  rw [SlotState.eq_free_iff_names, h, ← SlotState.eq_free_iff_names]

theorem WaitCell.empty_iff_of_entry {x y : WaitCell} (h : y.state.entry? = x.state.entry?) :
    y.state = .empty ↔ x.state = .empty := by
  rw [CellState.eq_empty_iff_entry, h, ← CellState.eq_empty_iff_entry]

theorem LeaseSlot.KeptOrFreed.trans {x y z : LeaseSlot} (h : x.KeptOrFreed y) (h' : y.KeptOrFreed z) : x.KeptOrFreed z := by
  obtain ⟨hg, hn⟩ | ⟨hx, rfl⟩ := h <;> obtain ⟨hg', hn'⟩ | ⟨hy, rfl⟩ := h'
  · exact .inl ⟨hg'.trans hg, hn'.trans hn⟩
  · exact .inr ⟨mt (LeaseSlot.free_iff_of_names hn).2 hy, by rw [hg]⟩
  · exact .inr ⟨hx, LeaseSlot.mk.injEq .. ▸ ⟨hg', (LeaseSlot.free_iff_of_names hn').2 rfl⟩⟩
  · exact absurd rfl hy

theorem WaitCell.KeptOrEmptied.trans {x y z : WaitCell} (h : x.KeptOrEmptied y) (h' : y.KeptOrEmptied z) : x.KeptOrEmptied z := by
  obtain ⟨hg, hn⟩ | ⟨hx, rfl⟩ := h <;> obtain ⟨hg', hn'⟩ | ⟨hy, rfl⟩ := h'
  · exact .inl ⟨hg'.trans hg, hn'.trans hn⟩
  · exact .inr ⟨mt (WaitCell.empty_iff_of_entry hn).2 hy, by rw [hg]⟩
  · exact .inr ⟨hx, WaitCell.mk.injEq .. ▸ ⟨hg', (WaitCell.empty_iff_of_entry hn').2 rfl⟩⟩
  · exact absurd rfl hy

/-- What is filled after the vacating turns over at most once. -/
theorem LeaseSlot.KeptOrFreed.turnedOver {x y z : LeaseSlot} (h : x.KeptOrFreed y) (h' : y.KeptOrFilled z) :
    x.TurnedOver z := by
  obtain ⟨hz, hnames⟩ := h'
  obtain ⟨hg, hn⟩ | ⟨hx, rfl⟩ := h
  · exact .inl ⟨hz.trans hg, fun hx => (hnames (mt (LeaseSlot.free_iff_of_names hn).1 hx)).trans hn⟩
  · exact .inr ⟨hz, hx⟩

theorem WaitCell.KeptOrEmptied.turnedOver {x y z : WaitCell} (h : x.KeptOrEmptied y) (h' : y.KeptOrFilled z) :
    x.TurnedOver z := by
  obtain ⟨hz, hentry⟩ := h'
  obtain ⟨hg, hn⟩ | ⟨hx, rfl⟩ := h
  · exact .inl ⟨hz.trans hg, fun hx => (hentry (mt (WaitCell.empty_iff_of_entry hn).1 hx)).trans hn⟩
  · exact .inr ⟨hz, hx⟩

theorem LeaseSlot.keptOrFreed_freed (x : LeaseSlot) : x.KeptOrFreed x.freed := by
  by_cases h : x.state = .free
  · rw [LeaseSlot.freed_of_free h]
    exact .refl x
  · exact .inr ⟨h, LeaseSlot.freed_of_ne_free h⟩

theorem WaitCell.keptOrEmptied_emptied (x : WaitCell) : x.KeptOrEmptied x.emptied := by
  by_cases h : x.state = .empty
  · rw [WaitCell.emptied_of_empty h]
    exact .refl x
  · exact .inr ⟨h, WaitCell.emptied_of_ne_empty h⟩

/-! ### What becomes of all of them -/

/-- From `s` to `t` slots and cells are kept or vacated, and none is filled. -/
structure State.Vacates (s t : State) : Prop where
  slot : ∀ k, (s.slot k).KeptOrFreed (t.slot k)
  cell : ∀ c, (s.cell c).KeptOrEmptied (t.cell c)

/-- From `s` to `t` slots and cells are kept or vacated, and what is paired stays paired. -/
structure State.Tidies (s t : State) : Prop extends s.Vacates t where
  paired : s.GrantsPaired → t.GrantsPaired

/-- What a whole command may do to the occupants: each slot and cell turns over at most once, and what is paired stays paired. -/
structure State.TurnsOver (s t : State) : Prop where
  slot : ∀ k, (s.slot k).TurnedOver (t.slot k)
  cell : ∀ c, (s.cell c).TurnedOver (t.cell c)
  paired : s.GrantsPaired → t.GrantsPaired

theorem State.Vacates.trans {s t u : State} (h : s.Vacates t) (h' : t.Vacates u) : s.Vacates u :=
  ⟨fun k => (h.slot k).trans (h'.slot k), fun c => (h.cell c).trans (h'.cell c)⟩

theorem State.Tidies.trans {s t u : State} (h : s.Tidies t) (h' : t.Tidies u) : s.Tidies u :=
  ⟨h.toVacates.trans h'.toVacates, fun hs => h'.paired (h.paired hs)⟩

theorem State.GrantsPaired.of_same {s t : State} (hs : s.GrantsPaired)
    (hslot : ∀ k, (t.slot k).state.reservation? = (s.slot k).state.reservation?)
    (hcell : ∀ c, (t.cell c).state.grant? = (s.cell c).state.grant?) : t.GrantsPaired := by
  rw [State.grantsPaired_iff] at hs ⊢
  simpa only [hslot, hcell] using hs

theorem State.Vacates.of_tables {s t : State} (hslots : t.slots = s.slots := by rfl) (hcells : t.cells = s.cells := by rfl) :
    s.Vacates t :=
  ⟨fun k => State.slot_congr hslots k ▸ .refl _, fun c => State.cell_congr hcells c ▸ .refl _⟩

/-- A change outside slots and cells. -/
theorem State.Tidies.of_tables {s t : State} (hslots : t.slots = s.slots := by rfl) (hcells : t.cells = s.cells := by rfl) :
    s.Tidies t :=
  ⟨.of_tables hslots hcells,
    fun hs => hs.of_same (fun k => by rw [State.slot_congr hslots]) fun c => by rw [State.cell_congr hcells]⟩

theorem State.Tidies.refl (s : State) : s.Tidies s := .of_tables

/-- What is filled after the vacating leaves every slot and cell turned over at most once. -/
theorem State.Tidies.filled {s t u : State} (h : s.Tidies t) (hslot : ∀ k, (t.slot k).KeptOrFilled (u.slot k))
    (hcell : ∀ c, (t.cell c).KeptOrFilled (u.cell c)) (hpaired : t.GrantsPaired → u.GrantsPaired) : s.TurnsOver u :=
  ⟨fun k => (h.slot k).turnedOver (hslot k), fun c => (h.cell c).turnedOver (hcell c), fun hs => hpaired (h.paired hs)⟩

theorem State.Tidies.turnsOver {s t : State} (h : s.Tidies t) : s.TurnsOver t := h.filled (fun _ => .refl _) (fun _ => .refl _) id

theorem State.Tidies.grantPass {s t : State} (h : s.Tidies t) : s.TurnsOver t.grantPass := by
  have hpass := t.grantPass_grantsOnly
  refine h.filled (fun k => ?_) (fun c => ?_) State.GrantsPaired.grantPass
  · obtain heq | ⟨c, e, x, left, hfree, _, hslot, _⟩ := hpass.slot k
    · exact heq ▸ .refl _
    · exact .of_free hfree (by rw [hslot])
  · obtain heq | ⟨k, e, x, left, _, hwait, _, hcell⟩ := hpass.cell c
    · exact heq ▸ .refl _
    · exact ⟨by rw [hcell], fun _ => by rw [hcell, hwait]; rfl⟩

theorem State.Tidies.passIfReadied {s t : State} (h : s.Tidies t) (before : State) : s.TurnsOver (before.passIfReadied t) := by
  unfold State.passIfReadied
  split
  · exact h.grantPass
  · exact h.turnsOver

theorem State.TurnsOver.of_tables {s t u : State} (h : s.TurnsOver t) (hslots : u.slots = t.slots := by rfl)
    (hcells : u.cells = t.cells := by rfl) : s.TurnsOver u :=
  ⟨fun k => State.slot_congr hslots k ▸ h.slot k, fun c => State.cell_congr hcells c ▸ h.cell c,
    fun hs => (State.Tidies.of_tables hslots hcells).paired (h.paired hs)⟩

theorem State.TurnsOver.refl (s : State) : s.TurnsOver s := (State.Tidies.refl s).turnsOver

/-- A FREE slot filled, though not with a RESERVED lease (R34, R48). -/
theorem State.turnsOver_fillSlot {s : State} {k : SlotNo} (hk : (s.slot k).state = .free) {x : SlotState}
    (hx : x.reservation? = none) : s.TurnsOver (s.setSlotState k x) := by
  refine (State.Tidies.refl s).filled (fun j => ?_) (fun _ => .refl _) fun hs => hs.of_same (fun j => ?_) fun _ => rfl
  · rw [State.slot_setSlotState]
    split
    · next h => exact h ▸ .of_free hk rfl
    · exact .refl _
  · rw [State.setSlotState, State.reservation?_setSlot]
    split
    · next h => rw [← h, hk, hx]; rfl
    · rfl

/-- An EMPTY cell filled with a WAITING entry (R81). -/
theorem State.turnsOver_fillCell {s : State} {c : CellNo} (hc : (s.cell c).state = .empty) {x : CellState}
    (hx : x.grant? = none) : s.TurnsOver (s.setCellState c x) := by
  refine (State.Tidies.refl s).filled (fun _ => .refl _) (fun d => ?_) fun hs => hs.of_same (fun _ => rfl) fun d => ?_
  · rw [State.cell_setCellState]
    split
    · next h => exact h ▸ .of_empty hc rfl
    · exact .refl _
  · rw [State.setCellState, State.grant?_setCell]
    split
    · next h => rw [← h, hc, hx]; rfl
    · rfl

/-! ### The shared operations -/

theorem State.vacates_setSlot {s : State} {k : SlotNo} {x : LeaseSlot} (h : (s.slot k).KeptOrFreed x) :
    s.Vacates (s.setSlot k x) := by
  refine ⟨fun j => ?_, fun _ => .refl _⟩
  rw [State.slot_setSlot]
  split
  · next hj => exact hj ▸ h
  · exact .refl _

theorem State.vacates_setCell {s : State} {c : CellNo} {x : WaitCell} (h : (s.cell c).KeptOrEmptied x) :
    s.Vacates (s.setCell c x) := by
  refine ⟨fun _ => .refl _, fun d => ?_⟩
  rw [State.cell_setCell]
  split
  · next hd => exact hd ▸ h
  · exact .refl _

theorem State.vacates_freeSlot (s : State) (k : SlotNo) : s.Vacates (s.freeSlot k) :=
  State.vacates_setSlot (s.slot k).keptOrFreed_freed

theorem State.vacates_freeReserved (s : State) (k : SlotNo) : s.Vacates (s.freeReserved k) := by
  unfold State.freeReserved
  split
  · exact s.vacates_freeSlot k
  · exact .of_tables

theorem State.vacates_collectSlot (s : State) (k : SlotNo) : s.Vacates (s.collectSlot k) := by
  unfold State.collectSlot
  split
  · next l c h => exact State.vacates_setSlot (.inl ⟨rfl, by rw [h]; rfl⟩)
  · exact .of_tables

theorem State.vacates_emptyCell (s : State) (c : CellNo) : s.Vacates (s.emptyCell c) := by
  refine ⟨fun _ => .refl _, fun d => ?_⟩
  rw [State.cell_emptyCell]
  split
  · next h => exact h ▸ (s.cell c).keptOrEmptied_emptied
  · exact .refl _

theorem State.vacates_cancelGrant (s : State) (c : CellNo) : s.Vacates (s.cancelGrant c) := by
  unfold State.cancelGrant
  split
  · next e left k h => exact State.vacates_setCell (.inl ⟨rfl, by rw [h]; rfl⟩)
  · exact .of_tables

/-- A slot that keeps its names and is RESERVED neither before nor after. -/
theorem State.tidies_setSlotState {s : State} {k : SlotNo} {x : SlotState} (hnames : x.names = (s.slot k).state.names)
    (hbefore : (s.slot k).state.reservation? = none) (hafter : x.reservation? = none) : s.Tidies (s.setSlotState k x) := by
  refine ⟨State.vacates_setSlot (.inl ⟨rfl, hnames⟩), fun hs => hs.of_same (fun j => ?_) fun _ => rfl⟩
  rw [State.setSlotState, State.reservation?_setSlot]
  split
  · next h => rw [← h, hbefore, hafter]
  · rfl

/-- The freeing step on a slot that is not RESERVED. -/
theorem State.tidies_freeSlot {s : State} {k : SlotNo} (h : (s.slot k).state.reservation? = none) : s.Tidies (s.freeSlot k) := by
  refine ⟨s.vacates_freeSlot k, fun hs => hs.of_same (fun j => ?_) fun _ => rfl⟩
  rw [State.reservation?_freeSlot]
  split
  · next hj => rw [← hj, h]
  · rfl

/-- The emptying step on a cell whose entry is not granted. -/
theorem State.tidies_emptyCell {s : State} {c : CellNo} (h : (s.cell c).state.grant? = none) : s.Tidies (s.emptyCell c) := by
  refine ⟨s.vacates_emptyCell c, fun hs => hs.of_same (fun _ => rfl) fun d => ?_⟩
  rw [State.grant?_emptyCell]
  split
  · next hd => rw [← hd, h]
  · rfl

/-- The readying step keeps the entry, and touches no grant (R97). -/
theorem WaitCell.readied_keeps (x : WaitCell) (p : WaitEntry → Bool) (o : Ending) (n : Nat) :
    x.KeptOrEmptied (x.readied p o n) ∧ (x.readied p o n).state.grant? = x.state.grant? := by
  obtain h | ⟨e, r, w, hx, _, h⟩ := x.readied_eq p o n
  · rw [h]
    exact ⟨.refl x, rfl⟩
  · rw [h]
    exact ⟨.inl ⟨rfl, by rw [hx]; rfl⟩, by rw [hx]; rfl⟩

theorem State.tidies_readyWhere (s : State) (p : WaitEntry → Bool) (o : Ending) : s.Tidies (s.readyWhere p o) := by
  refine ⟨⟨fun _ => .refl _, fun c => ?_⟩, fun hs => hs.of_same (fun _ => rfl) fun c => ?_⟩
  · rw [State.cell_readyWhere]
    exact (WaitCell.readied_keeps _ p o _).1
  · rw [State.cell_readyWhere]
    exact (WaitCell.readied_keeps _ p o _).2

theorem State.tidies_readyCell (s : State) (c : CellNo) (o : Ending) : s.Tidies (s.readyCell c o) := by
  refine ⟨State.vacates_setCell (WaitCell.readied_keeps _ _ o _).1, fun hs => hs.of_same (fun _ => rfl) fun d => ?_⟩
  rw [State.cell_readyCell]
  split
  · next h => exact h ▸ (WaitCell.readied_keeps _ _ o _).2
  · rfl

theorem State.tidies_raise (s : State) (x : Source) (d : Nat) : s.Tidies (s.raise x d) := .of_tables

theorem State.TurnsOver.finish {s t : State} (h : s.TurnsOver t) (r : ResultCode) (v w : Word) : s.TurnsOver (t.finish r v w) :=
  h.of_tables

theorem State.TurnsOver.conclude {s t : State} (h : s.TurnsOver t) (r : ResultCode) : s.TurnsOver (t.conclude r) := h.finish r 0 0

theorem State.tidies_standingChanged (s : State) (a : AgentNo) (old : Standing) : s.Tidies (s.standingChanged a old) := by
  unfold State.standingChanged
  split
  · exact .refl s
  · split
    · exact (s.tidies_raise _ _).trans (State.tidies_readyWhere _ _ _)
    · exact s.tidies_raise _ _
    · exact .refl s

theorem State.tidies_updateConduct (s : State) (a : AgentNo) (r : AgentRecord) : s.Tidies (s.updateConduct a r) :=
  State.Tidies.trans .of_tables (State.tidies_standingChanged _ _ _)

theorem State.tidies_deriveAll (s before : State) : s.Tidies (s.deriveAll before) := by
  unfold State.deriveAll
  generalize List.finRange 32 = as
  induction as generalizing s with
  | nil => exact .refl s
  | cons a as ih => exact (s.tidies_standingChanged a _).trans (ih _)

theorem State.tidies_elapseTimers (s : State) (d : Nat) : s.Tidies (s.elapseTimers d) := by
  have hslot (k : SlotNo) : (s.elapseTimers d).slot k = ⟨(s.slot k).generation, (s.slot k).state.elapse d⟩ := by
    simp [State.slot, State.elapseTimers]
  have hcell (c : CellNo) : (s.elapseTimers d).cell c = ⟨(s.cell c).generation, (s.cell c).state.elapse d⟩ := by
    simp [State.cell, State.elapseTimers]
  refine ⟨⟨fun k => .inl ?_, fun c => .inl ?_⟩, fun hs => hs.of_same (fun k => ?_) fun c => ?_⟩
  · rw [hslot]
    exact ⟨rfl, by cases (s.slot k).state <;> rfl⟩
  · rw [hcell]
    exact ⟨rfl, by cases (s.cell c).state <;> rfl⟩
  · rw [hslot]
    cases (s.slot k).state <;> rfl
  · rw [hcell]
    cases (s.cell c).state <;> rfl

/-! ### Pairs that go (R36, R37, R112) -/

/-- The collection of a grant: its slot becomes HELD and its cell is emptied (R36). -/
theorem State.tidies_collect {s : State} {c : CellNo} {e : WaitEntry} {left : Nat} {k : SlotNo}
    (hc : (s.cell c).state = .granted e left k) : s.Tidies ((s.collectSlot k).emptyCell c) := by
  refine ⟨(s.vacates_collectSlot k).trans (State.vacates_emptyCell _ c), fun hs => ?_⟩
  have hk := hs.2 c e left k hc
  rw [State.collectSlot_of_reserved hk]
  exact hs.dropPair hk (fun j => s.reservation?_setSlot k j _) (State.grant?_emptyCell _ c)

/-- The end of a grant: its slot is freed and its cell emptied (R107, R110). -/
theorem State.tidies_abandon {s : State} {c : CellNo} {e : WaitEntry} {left : Nat} {k : SlotNo}
    (hc : (s.cell c).state = .granted e left k) : s.Tidies ((s.freeReserved k).emptyCell c) := by
  refine ⟨(s.vacates_freeReserved k).trans (State.vacates_emptyCell _ c), fun hs => ?_⟩
  have hk := hs.2 c e left k hc
  rw [State.freeReserved_of_reserved hk]
  exact hs.dropPair hk (s.reservation?_freeSlot k) (State.grant?_emptyCell _ c)

/-- The withdrawal of a grant: its slot is freed and its entry CANCELLED (R112). -/
theorem State.tidies_withdrawGrant {s : State} {k : SlotNo} {l : AgentLease} {c : CellNo}
    (hk : (s.slot k).state = .reserved l c) : s.Tidies ((s.freeSlot k).cancelGrant c) := by
  refine ⟨(s.vacates_freeSlot k).trans (State.vacates_cancelGrant _ c), fun hs => ?_⟩
  obtain ⟨e, left, hc, rfl⟩ := hs.1 k l c hk
  rw [State.cancelGrant_freeSlot hk hc]
  exact hs.dropPair hk (fun j => s.reservation?_setSlot k j ⟨(s.slot k).generation + 1, .free⟩)
    fun d => s.grant?_setCell c d ⟨(s.cell c).generation, .ended e .cancelled left⟩

theorem SlotState.ownedBy_of_reservation {x : SlotState} {l : AgentLease} {c : CellNo} (h : x.reservation? = some (l, c))
    (a : AgentNo) : x.ownedBy a = (l.owner == a) := by
  rw [(SlotState.reservation?_eq_some_iff _ _ _).1 h]
  rfl

theorem CellState.ownedBy_of_grant {x : CellState} {e : WaitEntry} {k : SlotNo} (h : x.grant? = some (e, k)) (a : AgentNo) :
    x.ownedBy a = (e.agent == a) := by
  obtain ⟨left, rfl⟩ := (CellState.grant?_eq_some_iff _ _ _).1 h
  rfl

/-- A detach takes both partners of a pair or neither, since they name the same agent (R50, R113). -/
theorem State.tidies_detachedBeforePass (s : State) (a : AgentNo) : s.Tidies (s.detachedBeforePass a) := by
  have hslot (k : SlotNo) : ((s.detachedBeforePass a).slot k).state.reservation? =
      if (s.slot k).state.ownedBy a = true then none else (s.slot k).state.reservation? := by
    rw [State.slot_detachedBeforePass]
    split <;> rfl
  have hcell (c : CellNo) : ((s.detachedBeforePass a).cell c).state.grant? =
      if (s.cell c).state.ownedBy a = true then none else (s.cell c).state.grant? := by
    rw [State.cell_detachedBeforePass]
    split <;> rfl
  refine ⟨⟨fun k => ?_, fun c => ?_⟩, fun hs => hs.of_dropped (fun k => ?_) (fun c => ?_) fun k c e hk hc => ?_⟩
  · rw [State.slot_detachedBeforePass]
    split
    · next h => exact .inr ⟨SlotState.ne_free_of_ownedBy h, rfl⟩
    · exact .refl _
  · rw [State.cell_detachedBeforePass]
    split
    · next h => exact .inr ⟨CellState.ne_empty_of_ownedBy h, rfl⟩
    · exact .refl _
  · rw [hslot]
    exact ite_eq_or_eq _ _ _
  · rw [hcell]
    exact ite_eq_or_eq _ _ _
  · rw [hslot, hcell, SlotState.ownedBy_of_reservation hk, CellState.ownedBy_of_grant hc, hk, hc]
    by_cases h : e.agent = a <;> simp [WaitEntry.lease, h]

theorem State.grantsPaired_of_free {s : State} (hslots : ∀ k, (s.slot k).state = .free)
    (hcells : ∀ c, (s.cell c).state = .empty) : s.GrantsPaired :=
  ⟨fun k _ _ hk => (nomatch (hslots k).symm.trans hk), fun c _ _ _ hc => (nomatch (hcells c).symm.trans hc)⟩

theorem State.tidies_cleared (s : State) : s.Tidies s.cleared := by
  refine ⟨⟨fun k => ?_, fun c => ?_⟩, fun _ => State.grantsPaired_of_free (fun k => ?_) fun c => ?_⟩
  · exact s.slot_cleared k ▸ (s.slot k).keptOrFreed_freed
  · exact s.cell_cleared c ▸ (s.cell c).keptOrEmptied_emptied
  · rw [State.slot_cleared, LeaseSlot.state_freed]
  · rw [State.cell_cleared, WaitCell.state_emptied]

end Sys2Proof.Machine
end

section
/-! SUPPORT. Every command turns each slot and cell over at most once and keeps the pairing of grants: the walk over the rows of
spec/opcode_table.json, and the two statements that come of it (R26, R28, R35, R91, R92). -/

namespace Sys2Proof.Machine

/-! ### What an outcome comes to -/

/-- The outcome is a next state, in which each slot and cell has turned over at most once. -/
def TurnsTo (s : State) (o : Host.Outcome State Fault Refusal) : Prop := ∃ t, o = .next t ∧ s.TurnsOver t

theorem State.TurnsOver.next {s t : State} (h : s.TurnsOver t) : TurnsTo s (.next t) := ⟨t, rfl, h⟩

/-- A row that touches neither slots nor cells. -/
theorem turnsTo_of_tables {s t : State} (hslots : t.slots = s.slots := by rfl) (hcells : t.cells = s.cells := by rfl) :
    TurnsTo s (.next t) := ((State.TurnsOver.refl s).of_tables hslots hcells).next

theorem turnsTo_unlessReset {s : State} {f : State → State} (h : s.TurnsOver (f s)) : TurnsTo s (.next (s.unlessReset f)) := by
  refine State.TurnsOver.next ?_
  unfold State.unlessReset
  split
  · exact .refl s
  · exact h

/-! ### Requests (R71 to R108) -/

theorem turnsTo_takeRequest {s : State} {kind : Option RequestKind} {serve : AgentNo → Word → State × Answer}
    (h : ∀ a w0, s.TurnsOver (serve a w0).1) : TurnsTo s (.next (s.takeRequest kind serve)) := by
  by_cases hq : ∃ a w0, s.Requesting a w0 kind
  · obtain ⟨a, w0, hq⟩ := hq
    rw [State.takeRequest_of_requesting hq]
    exact ((h a w0).of_tables).next
  · rw [State.takeRequest_of_not fun a w0 hr => hq ⟨a, w0, hr⟩]
    exact turnsTo_of_tables

theorem State.turnsOver_defer {s : State} {c : CellNo} (hc : (s.cell c).state = .empty) (e : WaitEntry) (r : Reason)
    (w : Option Nat) : s.TurnsOver (s.defer e r w c).1 := by
  have hfill : s.TurnsOver (s.setCellState c (.waiting e r w)) := State.turnsOver_fillCell hc rfl
  cases r <;> exact hfill.of_tables

theorem State.turnsOver_acquireOrWait (s : State) (e : WaitEntry) (limit : BitVec 16) :
    s.TurnsOver (s.acquireOrWait e limit).1 := by
  unfold State.acquireOrWait
  split
  · next k hk => exact State.turnsOver_fillSlot (State.of_immediate_grant hk).2.1 rfl
  · next r _ =>
    unfold State.blockedAcquire
    split_ifs
    · cases r <;> exact (State.TurnsOver.refl s).of_tables
    · exact .refl s
    · split
      · exact (State.TurnsOver.refl s).of_tables
      · next c hc => exact State.turnsOver_defer ((s.lowestEmpty_eq_some_iff c).1 hc).1 e r _

theorem State.turnsOver_serveAcquire (s : State) (a : AgentNo) (q : AcquireFields) : s.TurnsOver (s.serveAcquire a q).1 := by
  obtain h | ⟨m, _, h⟩ := s.serveAcquire_refused_or_goesOn a q
  · rw [h]
    exact .refl s
  · rw [h]
    exact s.turnsOver_acquireOrWait _ _

/-- A renewal keeps the names of the lease, with a new term or the old one (R38). -/
theorem State.tidies_renewLease {s : State} {k : SlotNo} {l : AgentLease} {r : Nat} (h : (s.slot k).state = .held l r)
    (n : BitVec 16) : s.Tidies (s.renewLease k (l.withTerm n)) := by
  rw [AgentLease.withTerm_eq]
  exact State.tidies_setSlotState (by rw [h]; rfl) (by rw [h]; rfl) rfl

theorem State.turnsOver_serveRenew (s : State) (a : AgentNo) (h : Handle) (n : BitVec 16) :
    s.TurnsOver (s.serveRenew a h n).1 := by
  unfold State.serveRenew
  split_ifs
  · exact .refl s
  · exact .refl s
  · cases hst : (s.slot h.slot).state with
    | held l r =>
      dsimp only
      unfold State.renewHeld
      split
      · exact .refl s
      · exact (State.tidies_renewLease hst n).turnsOver
    | _ => exact .refl s

theorem State.tidies_credit (s : State) (a : AgentNo) : s.Tidies (s.credit a) := s.tidies_updateConduct a _

theorem State.tidies_charge (s : State) (a : AgentNo) (n : ScoreName) : s.Tidies (s.charge a n) := s.tidies_updateConduct a _

theorem State.turnsOver_serveRelease (s : State) (a : AgentNo) (h : Handle) : s.TurnsOver (s.serveRelease a h).1 := by
  unfold State.serveRelease
  split_ifs
  · exact .refl s
  · exact .refl s
  · cases hst : (s.slot h.slot).state with
    | held l r => exact ((State.tidies_freeSlot (by rw [hst]; rfl)).trans (State.tidies_credit _ a)).grantPass
    | lapsed l r => exact (State.tidies_freeSlot (by rw [hst]; rfl)).grantPass
    | revoked l r => exact (State.tidies_freeSlot (by rw [hst]; rfl)).grantPass
    | _ => exact .refl s

theorem State.turnsOver_servePoll (s : State) (a : AgentNo) (t : Ticket) : s.TurnsOver (s.servePoll a t).1 := by
  unfold State.servePoll
  split_ifs
  · exact .refl s
  · exact .refl s
  · cases hst : (s.cell t.cell).state with
    | granted e left k => exact (State.tidies_collect hst).turnsOver
    | ended e o left => exact (State.tidies_emptyCell (by rw [hst]; rfl)).turnsOver
    | _ => exact .refl s

theorem State.turnsOver_serveWithdraw (s : State) (a : AgentNo) (t : Ticket) : s.TurnsOver (s.serveWithdraw a t).1 := by
  unfold State.serveWithdraw
  split_ifs
  · exact .refl s
  · exact .refl s
  · cases hst : (s.cell t.cell).state with
    | waiting e r w => exact (State.tidies_emptyCell (by rw [hst]; rfl)).grantPass
    | granted e left k => exact (State.tidies_abandon hst).grantPass
    | ended e o left => exact (State.tidies_emptyCell (by rw [hst]; rfl)).turnsOver
    | empty => exact .refl s

theorem execFirstRequestWord_turnsTo (w0 : Word) (s : State) : TurnsTo s (execFirstRequestWord w0 s) := by
  unfold execFirstRequestWord
  split <;> exact turnsTo_of_tables

/-! ### The bus, attach and detach (R58 to R67, R120, R121) -/

theorem execArbiterChoice_turnsTo (req : Word) (s : State) : TurnsTo s (execArbiterChoice req s) := by
  have hchoose (u : State) : u.choose.slots = u.slots ∧ u.choose.cells = u.cells := by
    unfold State.choose
    split
    · exact ⟨rfl, rfl⟩
    · split
      · unfold State.grantBus
        split <;> exact ⟨rfl, rfl⟩
      · exact ⟨rfl, rfl⟩
  unfold execArbiterChoice State.unlessReset
  split
  · exact turnsTo_of_tables
  · exact turnsTo_of_tables (hchoose _).1 (hchoose _).2

theorem execTenureEnd_turnsTo (s : State) : TurnsTo s (execTenureEnd s) := by
  unfold execTenureEnd
  split <;> exact turnsTo_of_tables

theorem execTenureLimitExpiry_turnsTo (s : State) : TurnsTo s (execTenureLimitExpiry s) := by
  unfold execTenureLimitExpiry
  split <;> exact turnsTo_of_tables

theorem execDetach_turnsTo (a : AgentNo) (s : State) : TurnsTo s (execDetach a s) := by
  have hline : s.Tidies (s.lineLowered a) := .of_tables
  have hdetached := (hline.trans ((s.lineLowered a).tidies_detachedBeforePass a)).grantPass
  refine State.TurnsOver.next ?_
  split
  · unfold State.unlessReset
    split
    · exact hline.turnsOver
    · exact hdetached
  · exact hline.turnsOver

/-! ### Expiries and time (R40 to R46, R109, R110, R18) -/

theorem State.tidies_lapse {s : State} {k : SlotNo} {l : AgentLease} {r : Nat} (h : (s.slot k).state = .held l r) :
    s.Tidies (s.lapse k l) := by
  have hslot : s.Tidies (s.setSlotState k (.lapsed l s.holdAmount)) :=
    State.tidies_setSlotState (by rw [h]; rfl) (by rw [h]; rfl) rfl
  have hcharge : s.Tidies ((s.setSlotState k (.lapsed l s.holdAmount)).chargeLapse l (!s.renewsButForSweep l)) := by
    unfold State.chargeLapse
    split
    · exact hslot.trans (State.tidies_charge _ _ _)
    · exact hslot
  exact hcharge.trans (State.tidies_raise _ _ _)

theorem State.turnsOver_termRunsOut {s : State} {k : SlotNo} {l : AgentLease} {r : Nat} (h : (s.slot k).state = .held l r) :
    s.TurnsOver (s.termRunsOut k l) := by
  unfold State.termRunsOut
  split
  · exact (State.tidies_renewLease h 0).turnsOver
  · exact (State.tidies_lapse h).passIfReadied s

theorem execTermExpiry_turnsTo (k : SlotNo) (s : State) : TurnsTo s (execTermExpiry k s) := by
  refine State.TurnsOver.next ?_
  split
  · next l h =>
    split
    · exact .refl s
    · exact State.turnsOver_termRunsOut h
  · exact .refl s

theorem execHoldExpiry_turnsTo (k : SlotNo) (s : State) : TurnsTo s (execHoldExpiry k s) := by
  have hfreed (h : (s.slot k).state.reservation? = none) : s.TurnsOver (if s.frozen then s else (s.freeSlot k).grantPass) := by
    split
    · exact .refl s
    · exact (State.tidies_freeSlot h).grantPass
  refine State.TurnsOver.next ?_
  split
  · next l h => exact hfreed (by rw [h]; rfl)
  · next l h => exact hfreed (by rw [h]; rfl)
  · exact .refl s

theorem execWaitLimitExpiry_turnsTo (c : CellNo) (s : State) : TurnsTo s (execWaitLimitExpiry c s) := by
  refine State.TurnsOver.next ?_
  split
  · split
    · exact .refl s
    · exact (s.tidies_readyCell c _).grantPass
  · exact .refl s

theorem State.turnsOver_abandonGrant {s : State} {c : CellNo} {e : WaitEntry} {left : Nat} {k : SlotNo}
    (h : (s.cell c).state = .granted e left k) (a : AgentNo) : s.TurnsOver (s.abandonGrant c a k) :=
  (((State.tidies_abandon h).trans (State.tidies_charge _ a _)).trans (State.tidies_raise _ _ _)).grantPass

theorem execCollectionExpiry_turnsTo (c : CellNo) (s : State) : TurnsTo s (execCollectionExpiry c s) := by
  refine State.TurnsOver.next ?_
  split
  · next e k h =>
    split
    · exact .refl s
    · exact State.turnsOver_abandonGrant h _
  · next e o h =>
    split
    · exact .refl s
    · exact (State.tidies_emptyCell (by rw [h]; rfl)).turnsOver
  · exact .refl s

theorem State.tidies_passMicrosecond (s : State) : s.Tidies s.passMicrosecond := by
  have htimers : s.Tidies (if s.frozen then s else s.elapseTimers (unitStep s.unitCode)) := by
    split
    · exact .refl s
    · exact s.tidies_elapseTimers _
  refine htimers.trans ?_
  rw [State.passMicrosecond, State.elapseTenure_frame]
  exact .of_tables

/-! ### The check port (R126, R137) -/

theorem execTrespassCharge_turnsTo (s : State) : TurnsTo s (execTrespassCharge s) := by
  refine State.TurnsOver.next ?_
  split
  · exact .refl s
  · next a rest _ =>
    have hcharge : s.Tidies (State.charge { s with charges := rest } a .trespass) :=
      State.Tidies.trans .of_tables (State.tidies_charge _ a _)
    have hsame := State.takePresented_sameTables (s.applyTrespass a rest)
    exact (hcharge.passIfReadied s).of_tables hsame.slots hsame.cells

theorem turnsTo_presentNext {s : State} (q : List Lookup) :
    TurnsTo s (.next (State.presentNext { s with heldLookups := q })) := by
  have hsame := State.presentNext_sameTables { s with heldLookups := q }
  exact turnsTo_of_tables hsame.slots hsame.cells

/-! ### Host commands (R20 to R21, R133 to R136, R151 to R158, R163 to R182) -/

theorem State.turnsOver_conclude (s : State) (r : ResultCode) : s.TurnsOver (s.conclude r) := (State.TurnsOver.refl s).conclude r

theorem State.turnsOver_setAgentCommand (s : State) : s.TurnsOver s.setAgentCommand := by
  unfold State.setAgentCommand
  split
  · exact s.turnsOver_conclude _
  · next a _ =>
    split
    · exact s.turnsOver_conclude _
    · have hconduct := s.tidies_updateConduct a (((s.agent a).withPortPart s.params).withConductPart s.params)
      have happly : s.TurnsOver (s.applySetAgent a) := by
        unfold State.applySetAgent
        dsimp only
        split
        · exact hconduct.grantPass
        · exact hconduct.passIfReadied s
      exact happly.finish _ _ _

theorem State.turnsOver_clearAgentCommand (s : State) : s.TurnsOver s.clearAgentCommand := by
  unfold State.clearAgentCommand
  split
  · exact s.turnsOver_conclude _
  · exact (s.tidies_updateConduct _ _).turnsOver.finish _ _ _

theorem State.turnsOver_startSweep (s : State) : s.TurnsOver s.startSweep := by
  unfold State.startSweep
  split
  · exact s.turnsOver_conclude _
  · split
    · exact s.turnsOver_conclude _
    · next k _ =>
      have hready : s.Tidies (State.readyWhere { s with sweep := ⟨.inProgress, some k, 0, 0, 9⟩ } k.cancels .cancelled) :=
        State.Tidies.trans .of_tables (State.tidies_readyWhere _ _ _)
      exact (hready.passIfReadied s).finish _ _ _

theorem State.turnsOver_abortSweep (s : State) : s.TurnsOver s.abortSweep := by
  have hended : s.Tidies (s.endSweep .aborted) := .of_tables
  unfold State.abortSweep
  split
  · exact hended.grantPass.conclude _
  · exact s.turnsOver_conclude _

theorem State.turnsOver_loadProfile (s : State) : s.TurnsOver s.loadProfile := by
  unfold State.loadProfile
  split
  · exact s.turnsOver_conclude _
  · have hwrite : s.Tidies (s.writeProfile (readProfile s.staging)) := .of_tables
    exact ((hwrite.trans (State.tidies_deriveAll _ s)).passIfReadied s).finish _ _ _

theorem State.turnsOver_readRecord (s : State) (image : Option (Vector Word 12)) : s.TurnsOver (s.readRecord image) := by
  unfold State.readRecord
  split
  · exact s.turnsOver_conclude _
  · split
    · exact s.turnsOver_conclude _
    · exact (State.TurnsOver.refl s).of_tables

theorem State.turnsOver_dropSnapshot (s : State) : s.TurnsOver s.dropSnapshot := by
  unfold State.dropSnapshot
  split
  · exact (State.TurnsOver.refl s).of_tables
  · exact s.turnsOver_conclude _

theorem State.turnsOver_setFence (s : State) (r : GranuleRange) : s.TurnsOver (s.setFence r) := by
  unfold State.setFence
  split_ifs
  · exact s.turnsOver_conclude _
  · exact s.turnsOver_conclude _
  · split
    · exact s.turnsOver_conclude _
    · next k hk =>
      have hfill : s.TurnsOver (s.setSlotState k (.fence r)) :=
        State.turnsOver_fillSlot ((s.lowestFree_eq_some_iff k).1 hk).1 rfl
      exact hfill.finish _ _ _

theorem State.turnsOver_clearFence (s : State) (h : Handle) : s.TurnsOver (s.clearFence h) := by
  unfold State.clearFence
  split
  · next r hst =>
    split
    · exact (State.tidies_freeSlot (by rw [hst]; rfl)).grantPass.conclude _
    · exact s.turnsOver_conclude _
  · exact s.turnsOver_conclude _

/-- Revocation keeps the names of a HELD or LAPSED lease (R44). -/
theorem State.tidies_revokeLease {s : State} {k : SlotNo} {l : AgentLease} {r : Nat}
    (h : (s.slot k).state = .held l r ∨ (s.slot k).state = .lapsed l r) : s.Tidies (s.revokeLease k l) := by
  obtain h | h := h <;> exact State.tidies_setSlotState (by rw [h]; rfl) (by rw [h]; rfl) rfl

theorem State.turnsOver_revokePair (s : State) (h : Handle) : s.TurnsOver (s.revokePair h) := by
  unfold State.revokePair
  split
  · cases hst : (s.slot h.slot).state with
    | held l r => exact (State.tidies_revokeLease (.inl hst)).grantPass.finish _ _ _
    | lapsed l r => exact (State.tidies_revokeLease (.inr hst)).grantPass.finish _ _ _
    | reserved l c => exact (State.tidies_withdrawGrant hst).grantPass.finish _ _ _
    | _ => exact s.turnsOver_conclude _
  · exact s.turnsOver_conclude _

theorem State.turnsOver_cancelTicket (s : State) (t : Ticket) : s.TurnsOver (s.cancelTicket t) := by
  unfold State.cancelTicket
  split
  · exact s.turnsOver_conclude _
  · split
    · exact (s.tidies_readyCell _ _).grantPass.finish _ _ _
    · exact s.turnsOver_conclude _
    · exact s.turnsOver_conclude _
    · exact s.turnsOver_conclude _

theorem State.turnsOver_lock (s : State) :
    s.TurnsOver (if s.lock then s.conclude .ignored else { s with lock := true }.conclude .done) := by
  split <;> exact (State.TurnsOver.refl s).of_tables

theorem writeCommandWord_turnsTo (code : BitVec 8) (s : State) : TurnsTo s (writeCommandWord code s) := by
  unfold writeCommandWord
  split
  · exact turnsTo_unlessReset ((State.TurnsOver.refl s).of_tables)
  · exact turnsTo_unlessReset ((State.TurnsOver.refl s).of_tables)
  · exact turnsTo_unlessReset s.turnsOver_setAgentCommand
  · exact turnsTo_unlessReset s.turnsOver_clearAgentCommand
  · exact turnsTo_unlessReset s.turnsOver_startSweep
  · exact turnsTo_unlessReset s.turnsOver_abortSweep
  · exact turnsTo_unlessReset s.turnsOver_loadProfile
  · exact turnsTo_unlessReset s.turnsOver_lock
  · exact turnsTo_unlessReset (s.tidies_cleared.grantPass.conclude _)
  · exact turnsTo_unlessReset (s.turnsOver_readRecord _)
  · exact turnsTo_unlessReset (s.turnsOver_readRecord _)
  · exact turnsTo_unlessReset (s.turnsOver_readRecord _)
  · exact turnsTo_unlessReset (s.turnsOver_readRecord _)
  · exact turnsTo_unlessReset s.turnsOver_dropSnapshot
  · exact turnsTo_unlessReset (s.turnsOver_setFence _)
  · exact turnsTo_unlessReset (s.turnsOver_clearFence _)
  · exact turnsTo_unlessReset (s.turnsOver_revokePair _)
  · exact turnsTo_unlessReset (s.turnsOver_cancelTicket _)
  · exact turnsTo_unlessReset (s.turnsOver_conclude _)

theorem execRegisterWrite_turnsTo (addr : BitVec 6) (data : Word) (s : State) : TurnsTo s (execRegisterWrite addr data s) := by
  unfold execRegisterWrite
  split
  · exact writeCommandWord_turnsTo _ s
  · exact turnsTo_unlessReset (State.TurnsOver.refl s).of_tables
  · exact turnsTo_unlessReset (State.TurnsOver.refl s).of_tables
  · exact turnsTo_unlessReset (State.TurnsOver.refl s).of_tables
  · refine turnsTo_unlessReset ?_
    unfold State.storeWord
    split_ifs <;> exact (State.TurnsOver.refl s).of_tables

/-! ### Visits (R154 to R157) -/

theorem State.tidies_visitAction (s : State) (k : SlotNo) : s.Tidies (s.visitAction k).1 := by
  unfold State.visitAction
  cases hst : (s.slot k).state with
  | held l r =>
    dsimp only
    split
    · exact State.tidies_revokeLease (.inl hst)
    · exact .refl s
  | lapsed l r =>
    dsimp only
    split
    · exact State.tidies_revokeLease (.inr hst)
    · exact .refl s
  | reserved l c =>
    dsimp only
    split
    · exact State.tidies_withdrawGrant hst
    · exact .refl s
  | _ => exact .refl s

theorem State.turnsOver_visitSlot (s : State) (k : SlotNo) : s.TurnsOver (s.visitSlot k) := by
  have haction := s.tidies_visitAction k
  unfold State.visitSlot
  generalize s.visitAction k = r at haction
  have hadvanced : s.Tidies { r.1 with sweep := r.1.sweep.advanced (k.val + 1) r.2.2 } := haction.trans .of_tables
  dsimp only
  split_ifs
  · exact (hadvanced.trans (.of_tables (t := State.endSweep _ .completed))).grantPass
  · exact hadvanced.grantPass
  · exact hadvanced.turnsOver

theorem execVisit_turnsTo (s : State) : TurnsTo s (execVisit s) := by
  refine State.TurnsOver.next ?_
  split_ifs
  · exact s.turnsOver_visitSlot _
  · exact .refl s
  · exact .refl s

/-! ### Every row but power-on and RESET -/

theorem exec_turnsTo {i : Instr} (hreset : i ≠ .resetHeld) (hpower : ∀ g n l, i ≠ .powerOn g n l) (s : State) :
    TurnsTo s (exec i s) := by
  have command {n : Nat} (hi : i.commandCode = some n) : TurnsTo s (exec i s) :=
    exec_eq_writeCommandWord hi s ▸ writeCommandWord_turnsTo _ s
  cases i with
  | acquire w1 w2 w3 => exact turnsTo_takeRequest fun _ _ => s.turnsOver_serveAcquire _ _
  | renew w1 w2 w3 => exact turnsTo_takeRequest fun _ _ => s.turnsOver_serveRenew _ _ _
  | release w1 w2 w3 => exact turnsTo_takeRequest fun _ _ => s.turnsOver_serveRelease _ _
  | poll w1 w2 w3 => exact turnsTo_takeRequest fun _ _ => s.turnsOver_servePoll _ _
  | withdraw w1 w2 w3 => exact turnsTo_takeRequest fun _ _ => s.turnsOver_serveWithdraw _ _
  | unknownRequest w1 w2 w3 => exact turnsTo_takeRequest fun _ _ => .refl s
  | arbiterChoice req => exact execArbiterChoice_turnsTo req s
  | tenureEnd => exact execTenureEnd_turnsTo s
  | tenureLimitExpiry => exact execTenureLimitExpiry_turnsTo s
  | attach a => exact turnsTo_of_tables
  | detach a => exact execDetach_turnsTo a s
  | powerOn g n l => exact absurd rfl (hpower g n l)
  | termExpiry k => exact execTermExpiry_turnsTo k s
  | holdExpiry k => exact execHoldExpiry_turnsTo k s
  | waitLimitExpiry c => exact execWaitLimitExpiry_turnsTo c s
  | collectionExpiry c => exact execCollectionExpiry_turnsTo c s
  | lookup a addr kind => exact turnsTo_presentNext _
  | trespassCharge => exact execTrespassCharge_turnsTo s
  | visit => exact execVisit_turnsTo s
  | unknownCommand code => exact writeCommandWord_turnsTo code s
  | closingRead => exact turnsTo_of_tables
  | enableWrite data => exact turnsTo_unlessReset (State.TurnsOver.refl s).of_tables
  | globalEnableWrite on => exact turnsTo_unlessReset (State.TurnsOver.refl s).of_tables
  | elevateWrite field => exact turnsTo_unlessReset (State.TurnsOver.refl s).of_tables
  | acknowledge data => exact turnsTo_unlessReset (State.TurnsOver.refl s).of_tables
  | registerWrite addr data => exact execRegisterWrite_turnsTo addr data s
  | firstRequestWord w0 => exact execFirstRequestWord_turnsTo w0 s
  | resetHeld => exact absurd rfl hreset
  | _ => exact command rfl

theorem exec_turnsOver {i : Instr} {s t : State} (h : exec i s = .next t) (hreset : i ≠ .resetHeld)
    (hpower : ∀ g n l, i ≠ .powerOn g n l) : s.TurnsOver t := by
  obtain ⟨u, hu, hturns⟩ := exec_turnsTo hreset hpower s
  cases hu.symm.trans h
  exact hturns

/-! ### The statements -/

theorem SlotState.names_eq_iff (x y : SlotState) :
    y.names = x.names ↔ y.owner? = x.owner? ∧ y.mode? = x.mode? ∧ y.range? = x.range? := by
  simp [SlotState.names]

/-- Settles O50: each slot and cell turns over at most once in a command. -/
theorem occupanciesKeepTheirNames : Obligations.OccupanciesKeepTheirNames := by
  intro i s t h hreset hpower
  obtain ⟨hslot, hcell, _⟩ := exec_turnsOver h hreset hpower
  refine ⟨fun k => (hslot k).imp_left fun ⟨hg, hn⟩ => ⟨hg, fun hne => ?_⟩, hcell⟩
  exact (SlotState.names_eq_iff _ _).1 (hn hne)

theorem State.grantsPaired_poweredOn (s : State) (g : Bool) (n : BitVec 2) (w : Word) : (s.poweredOn g n w).GrantsPaired :=
  State.grantsPaired_of_free (fun k => by rw [State.slot_poweredOn]) fun c => by rw [State.cell_poweredOn]

theorem State.GrantsPaired.sameTables {s t : State} (hs : s.GrantsPaired) (h : SameTables s t) : t.GrantsPaired :=
  (State.Tidies.of_tables h.slots h.cells).paired hs

theorem State.GrantsPaired.exec {i : Instr} {s t : State} (hs : s.GrantsPaired) (h : exec i s = .next t) : t.GrantsPaired := by
  by_cases hreset : i = .resetHeld
  · subst hreset
    cases (execResetHeld_eq s).symm.trans h
    have hasserted : s.resetAsserted.GrantsPaired := (s.grantsPaired_poweredOn s.granule64 s.agentsCode s.attach).sameTables {}
    exact hasserted.sameTables (State.takePresented_sameTables _)
  · by_cases hpower : ∃ g n l, i = .powerOn g n l
    · obtain ⟨g, n, l, rfl⟩ := hpower
      cases h
      exact s.grantsPaired_poweredOn g n l
    · exact (exec_turnsOver h hreset fun g n l hi => hpower ⟨g, n, l, hi⟩).paired hs

theorem State.GrantsPaired.tick {s : State} (hs : s.GrantsPaired) : s.tick.GrantsPaired := by
  have hpolled := hs.sameTables s.pollCheckPort_sameTables
  unfold State.tick State.unlessReset
  split
  · exact hpolled
  · exact s.pollCheckPort.tidies_passMicrosecond.paired hpolled

/-- Settles O52: what an event vacates it vacates on both sides of a pair, a grant makes both sides at once (R35), and time
changes neither. -/
theorem stepKeepsGrantsPaired : Obligations.StepKeepsGrantsPaired := by
  intro s t hs h
  unfold step at h
  split at h
  · cases h
    exact hs.tick
  · next i rest _ => exact State.GrantsPaired.exec (s := { s with pending := rest }) (hs.sameTables {}) h

end Sys2Proof.Machine
end

section
/-! SUPPORT. The request bus: port states, the arbiter's choice, the transfers of a tenure (R57 to R64, R120). -/

namespace Sys2Proof.Machine

/-! ### Ports (R57, R58, R120) -/

theorem State.port_eq_absent_iff (s : State) (a : AgentNo) : s.port a = .absent ↔ s.portCount ≤ a.val := by
  unfold State.port
  split_ifs <;> simp_all

theorem State.port_eq_attached_iff (s : State) (a : AgentNo) :
    s.port a = .attached ↔ s.port a ≠ .absent ∧ s.attach.getLsbD a.val = true := by
  unfold State.port
  split_ifs <;> simp_all

theorem State.port_congr {s t : State} {a : AgentNo} (hcode : t.agentsCode = s.agentsCode)
    (hline : t.attach.getLsbD a.val = s.attach.getLsbD a.val) : t.port a = s.port a := by
  rw [State.port, State.port, State.portCount, State.portCount, hcode, hline]

theorem getLsbD_setLine_high (lines : Word) (a b : AgentNo) :
    (setLine lines a true).getLsbD b.val = (decide (b = a) || lines.getLsbD b.val) := by
  rw [getLsbD_setLine]
  by_cases h : a = b
  · simp [h]
  · simp [h, Ne.symm h]

/-- With all 32 ports selected none is ABSENT (R57). -/
theorem State.port_ne_absent_of_all {s : State} (h : s.agentsCode = 2 ∨ s.agentsCode = 3) (a : AgentNo) :
    s.port a ≠ .absent := by
  have hcount : s.portCount = 32 := by
    obtain h | h := h <;> rw [State.portCount, h] <;> rfl
  rw [ne_eq, State.port_eq_absent_iff, hcount]
  exact Nat.not_le.2 a.isLt

/-- Settles O6. -/
theorem portsFollowStrapsAndLines : Obligations.PortsFollowStrapsAndLines := by
  intro s a
  refine ⟨fun h => ?_, fun h => ?_, fun h => State.port_ne_absent_of_all h a, fun h => ?_, _, rfl, rfl,
    getLsbD_setLine_high s.attach a, fun h => ?_, fun b hb => ?_⟩
  · rw [State.port_eq_absent_iff, State.portCount, h]
    rfl
  · rw [State.port_eq_absent_iff, State.portCount, h]
    rfl
  · rw [State.port_eq_attached_iff]
    exact and_iff_right h
  · have hpresent : ¬ s.portCount ≤ a.val := by
      rw [← State.port_eq_absent_iff, h]
      nofun
    rw [State.port_eq_attached_iff, ne_eq, State.port_eq_absent_iff]
    exact ⟨hpresent, by rw [getLsbD_setLine_high]; simp⟩
  · refine State.port_congr rfl ?_
    rw [getLsbD_setLine_high]
    simp [hb]

/-! ### The arbiter (R58, R60 to R62) -/

theorem State.contends_iff (s : State) (c : ArbiterClass) (a : AgentNo) :
    s.contends c a = true ↔ s.port a = .attached ∧ s.req.getLsbD a.val = true ∧ (s.agent a).arbiterClass = c := by
  simp [State.contends, State.eligible, and_assoc]

theorem State.firstContender_eq_some_iff (s : State) (c : ArbiterClass) (p : AgentNo → Bool) (a : AgentNo) :
    s.firstContender c p = some a ↔
      s.contends c a = true ∧ p a = true ∧ ∀ b : AgentNo, p b = true → b < a → s.contends c b = false := by
  rw [State.firstContender, find_finRange_eq_some_iff, Bool.and_eq_true, and_assoc]
  refine and_congr_right fun _ => and_congr_right fun _ => forall_congr' fun b => ?_
  rw [Bool.and_eq_false_iff]
  cases p b <;> simp

theorem State.firstContender_eq_none_iff (s : State) (c : ArbiterClass) (p : AgentNo → Bool) :
    s.firstContender c p = none ↔ ∀ b : AgentNo, p b = true → s.contends c b = false := by
  simp only [State.firstContender, List.find?_eq_none, List.mem_finRange, true_imp_iff, Bool.and_eq_true, not_and',
    Bool.not_eq_true]

theorem State.lowChoice_eq_some_iff (s : State) (a : AgentNo) :
    s.lowChoice = some a ↔ s.FirstLow s.lowPointer.val a := by
  simp only [State.lowChoice, Option.or_eq_some_iff, State.firstContender_eq_some_iff, State.firstContender_eq_none_iff,
    decide_eq_true_eq]
  constructor
  · rintro (⟨hc, hup, hfirst⟩ | ⟨hnone, hc, hdown, hfirst⟩)
    · exact ⟨hc, .inl ⟨hup, hfirst⟩⟩
    · refine ⟨hc, .inr ⟨hdown, hnone, fun b hb => hfirst b ?_ hb⟩⟩
      exact lt_trans hb hdown
  · rintro ⟨hc, ⟨hup, hfirst⟩ | ⟨hdown, hnone, hfirst⟩⟩
    · exact .inl ⟨hc, hup, hfirst⟩
    · exact .inr ⟨hnone, hc, hdown, fun b _ hb => hfirst b hb⟩

theorem State.lowChoice_eq_none_iff (s : State) : s.lowChoice = none ↔ ∀ b : AgentNo, s.contends .low b = false := by
  simp only [State.lowChoice, Option.or_eq_none_iff, State.firstContender_eq_none_iff, decide_eq_true_eq]
  refine ⟨fun ⟨hup, hdown⟩ b => ?_, fun h => ⟨fun b _ => h b, fun b _ => h b⟩⟩
  exact (le_or_gt s.lowPointer.val b.val).elim (hup b) (hdown b)

/-- Where no HIGH contender stands at the rotation pointer or above, the first one below it is the first of all (R60). -/
theorem State.firstContender_below_iff {s : State} {p : Nat} (hnone : ∀ b : AgentNo, p ≤ b.val → s.contends .high b = false)
    (a : AgentNo) : (s.firstContender .high fun b => decide (b.val < p)) = some a ↔ s.FirstHigh 0 a := by
  simp only [State.firstContender_eq_some_iff, decide_eq_true_eq]
  constructor
  · rintro ⟨hc, hlt, hfirst⟩
    exact ⟨hc, Nat.zero_le _, fun b _ hb => hfirst b (lt_trans hb hlt) hb⟩
  · rintro ⟨hc, _, hfirst⟩
    refine ⟨hc, Nat.lt_of_not_le fun hle => ?_, fun b _ hb => hfirst b (Nat.zero_le _) hb⟩
    rw [hnone a hle] at hc
    cases hc

/-- The model's choice is the one R60 describes: the HIGH agents from the rotation pointer up, the LOW position, the HIGH agents
below. -/
theorem State.arbiterChoice_eq_some_iff (s : State) (a : AgentNo) :
    s.arbiterChoice = some a ↔ s.ChosenHigh a ∨ s.ChosenLow a := by
  have hup : (s.firstContender .high fun b => decide (s.rotation.val ≤ b.val)) = some a ↔ s.FirstHigh s.rotation.val a := by
    simp only [State.firstContender_eq_some_iff, decide_eq_true_eq]
  have hnone : (s.firstContender .high fun b => decide (s.rotation.val ≤ b.val)) = none ↔
      ∀ b : AgentNo, s.rotation.val ≤ b.val → s.contends .high b = false := by
    simp only [State.firstContender_eq_none_iff, decide_eq_true_eq]
  rw [State.arbiterChoice, Option.or_eq_some_iff, Option.or_eq_some_iff, Option.or_eq_none_iff, hup, hnone,
    State.lowChoice_eq_some_iff, State.lowChoice_eq_none_iff]
  constructor
  · rintro ((h | h) | ⟨⟨hn, hl⟩, hb⟩)
    · exact .inl (.inl h)
    · exact .inr h
    · exact .inl (.inr ⟨hn, hl, (State.firstContender_below_iff hn a).1 hb⟩)
  · rintro ((h | ⟨hn, hl, hb⟩) | h)
    · exact .inl (.inl h)
    · exact .inr ⟨⟨hn, hl⟩, (State.firstContender_below_iff hn a).2 hb⟩
    · exact .inl (.inr h)

/-- The arbiter chooses some agent exactly when one contends (R60, R62). -/
theorem State.arbiterChoice_eq_none_iff (s : State) : s.arbiterChoice = none ↔ ∀ c a, s.contends c a = false := by
  simp only [State.arbiterChoice, Option.or_eq_none_iff, State.lowChoice_eq_none_iff, State.firstContender_eq_none_iff,
    decide_eq_true_eq]
  constructor
  · rintro ⟨⟨hup, hlow⟩, hdown⟩ (_ | _) a
    · exact hlow a
    · exact (le_or_gt s.rotation.val a.val).elim (hup a) (hdown a)
  · exact fun h => ⟨⟨fun b _ => h _ b, h .low⟩, fun b _ => h _ b⟩

/-- Outside RESET an ARBITER_CHOICE is a choice under the REQ levels it carries (R58, R60). -/
theorem exec_arbiterChoice {s : State} (hr : s.resetHeld = false) (req : Word) :
    exec (.arbiterChoice req) s = .next (State.choose { s with req := req }) :=
  congrArg _ (State.unlessReset_of_running (s := { s with req := req }) hr _)

theorem State.choose_of_choice {s : State} {a : AgentNo} (ht : s.tenure = none) (ha : s.arbiterChoice = some a) :
    s.choose = s.grantBus a := by
  simp [State.choose, ht, ha]

theorem State.choose_of_none {s : State} (h : s.tenure ≠ none ∨ s.arbiterChoice = none) : s.choose = s := by
  unfold State.choose
  split
  · rfl
  · next ht => rw [h.resolve_left (not_not_intro ht)]

/-- A HIGH choice moves the rotation pointer past the agent and leaves the LOW pointer (R61). -/
theorem State.grantBus_of_high {s : State} {a : AgentNo} (h : s.contends .high a = true) :
    s.grantBus a = { s with tenure := some ⟨a, .awaitingFirst 2⟩, rotation := a.succ } := by
  obtain ⟨_, _, hclass⟩ := (s.contends_iff _ _).1 h
  simp [State.grantBus, hclass, Config.tenureLimit]

/-- A LOW choice sets the rotation pointer to 0 and moves the LOW pointer past the agent, from 31 to 0 (R61). -/
theorem State.grantBus_of_low {s : State} {a : AgentNo} (h : s.contends .low a = true) :
    s.grantBus a =
      { s with tenure := some ⟨a, .awaitingFirst 2⟩, rotation := 0, lowPointer := if a = 31 then 0 else a + 1 } := by
  obtain ⟨_, _, hclass⟩ := (s.contends_iff _ _).1 h
  have hwrap : (if a = 31 then 0 else a + 1) = a + 1 := by
    split_ifs with ha
    · rw [ha]
      rfl
    · rfl
  simp [State.grantBus, hclass, Config.tenureLimit, hwrap]

theorem State.contends_of_chosenHigh {s : State} {a : AgentNo} (h : s.ChosenHigh a) : s.contends .high a = true := by
  obtain ⟨hc, _⟩ | ⟨_, _, hc, _⟩ := h <;> exact hc

/-- Settles O8: the model's choice is the one of R60, and its grant is the one of R61. -/
theorem arbiterChoosesByRotation : Obligations.ArbiterChoosesByRotation := by
  intro s req hr x hx
  have hcontends (cl : ArbiterClass) (a : AgentNo) :
      x.contends cl a = true ↔ x.port a = .attached ∧ req.getLsbD a.val = true ∧ (s.agent a).arbiterClass = cl := by
    rw [State.contends_iff, hx]
    rfl
  have htenure : s.tenure = x.tenure := by rw [hx]
  rw [exec_arbiterChoice hr, ← hx, htenure]
  refine ⟨hcontends, fun ht => ⟨fun a ha => ?_, fun a ha => ?_, fun hnone => ?_, fun ⟨c, a, ha⟩ => ?_⟩, fun ht => ?_⟩
  · rw [State.choose_of_choice ht ((x.arbiterChoice_eq_some_iff a).2 (.inl ha)),
      State.grantBus_of_high (State.contends_of_chosenHigh ha)]
  · rw [State.choose_of_choice ht ((x.arbiterChoice_eq_some_iff a).2 (.inr ha)), State.grantBus_of_low ha.2.1]
  · rw [State.choose_of_none (.inr (x.arbiterChoice_eq_none_iff.2 hnone))]
  · cases hchoice : x.arbiterChoice with
    | none =>
      rw [x.arbiterChoice_eq_none_iff.1 hchoice c a] at ha
      cases ha
    | some b => exact ⟨b, (x.arbiterChoice_eq_some_iff b).1 hchoice⟩
  · rw [State.choose_of_none (.inl ht)]

/-! ### The transfers of a tenure (R58, R61, R63, R64) -/

/-- A request row is taken as a request, whatever it goes on to serve (R63, R68). -/
theorem exec_requestRow {c : Instr} {k : Option RequestKind} (hc : c.requestRow = some k) (s : State) :
    ∃ serve, exec c s = .next (s.takeRequest k serve) := by
  cases c <;> cases hc <;> exact ⟨_, rfl⟩

theorem exec_firstRequestWord_of_not {s : State} (h : ∀ a n, s.tenure ≠ some ⟨a, .awaitingFirst n⟩) (w0 : Word) :
    exec (.firstRequestWord w0) s = .next { s with mack := false } := by
  refine congrArg Host.Outcome.next ?_
  split
  · next a n ht => exact absurd ht (h a n)
  · rfl

theorem exec_tenureEnd_of_not {s : State} (h : ∀ a a0 a1, s.tenure ≠ some ⟨a, .answered a0 a1⟩) :
    exec .tenureEnd s = .next { s with mack := false } := by
  refine congrArg Host.Outcome.next ?_
  split
  · next a a0 a1 ht => exact absurd ht (h a a0 a1)
  · rfl

theorem exec_tenureLimitExpiry_of_not {s : State} (h : ∀ a, s.tenure ≠ some ⟨a, .awaitingFirst 0⟩) :
    exec .tenureLimitExpiry s = .next s := by
  refine congrArg Host.Outcome.next ?_
  split
  · next a ht => exact absurd ht (h a)
  · rfl

theorem State.getLsbD_gnt {s : State} {a : AgentNo} {p : TenurePhase} (h : s.tenure = some ⟨a, p⟩) (b : AgentNo) :
    s.gnt.getLsbD b.val = decide (b = a) := by
  simp [State.gnt, h, Fin.ext_iff, eq_comm]

/-- Settles O9: first the transfers that are due, then those that are not. -/
theorem transfersOfATenure : Obligations.TransfersOfATenure := by
  refine ⟨fun s a => ⟨fun n w0 ht => ?_, fun ht => ?_, fun a0 a1 ht => ?_, fun p ht => State.getLsbD_gnt ht, fun ht => ?_⟩,
    fun s => ⟨fun c k hc hnot => ?_, fun w0 h => exec_firstRequestWord_of_not h w0, exec_tenureEnd_of_not,
      exec_tenureLimitExpiry_of_not⟩⟩
  · simp [exec, execFirstRequestWord, ht]
  · simp [exec, execTenureLimitExpiry, ht]
  · simp [exec, execTenureEnd, ht]
  · simp [State.gnt, ht]
  · obtain ⟨serve, hserve⟩ := exec_requestRow hc s
    rw [hserve, State.takeRequest_of_not hnot]

end Sys2Proof.Machine
end

section
/-! SUPPORT. Requests that are refused or deferred: the tests of ACQUIRE and RENEW in their order, and the entry a deferral writes
(R69 to R84, R92, R94, R95). -/

namespace Sys2Proof.Machine

/-! ### ACQUIRE before the immediate-grant test (R70 to R75) -/

theorem exec_acquire {s : State} {a : AgentNo} {w0 : Word} (hreq : s.Requesting a w0 (some .acquire)) (w1 w2 w3 : Word) :
    exec (.acquire w1 w2 w3) s =
      .next ((s.serveAcquire a (acquireFields w0 w1 w2 w3)).1.withAnswer a (s.serveAcquire a (acquireFields w0 w1 w2 w3)).2) :=
  congrArg Host.Outcome.next (State.takeRequest_of_requesting hreq _)

theorem State.serveAcquire_of_malformed {s : State} {q : AcquireFields} (h : ∀ m, ¬ s.AcquireInRange q m) (a : AgentNo) :
    s.serveAcquire a q = (s, .plain .malformed) := by
  refine if_pos (Bool.eq_true_of_not_eq_false fun hf => ?_)
  obtain ⟨m, hm⟩ := (s.malformedAcquire_eq_false_iff q).1 hf
  exact h m hm

/-- The tests of an ACQUIRE whose fields are in range, each met when those before it are passed (R71 to R75). -/
theorem State.serveAcquire_of_inRange {s : State} {q : AcquireFields} {m : LeaseMode} (h : s.AcquireInRange q m) (a : AgentNo) :
    (s.standing a = .barred → s.serveAcquire a q = (s, .plain .barred)) ∧
    (s.standing a ≠ .barred → admissible s.map a q.range = false → s.serveAcquire a q = (s, .plain .bounds)) ∧
    (s.standing a ≠ .barred → admissible s.map a q.range = true → s.SweepRefuses a q.range →
      s.serveAcquire a q = (s, .plain .sweeping)) ∧
    (s.standing a ≠ .barred → admissible s.map a q.range = true → ¬ s.SweepRefuses a q.range →
      (s.agent a).leaseLimit ≤ s.ownedSlots a → s.serveAcquire a q = (s, .plain .limit)) := by
  have hwell := (s.malformedAcquire_eq_false_iff q).2 ⟨m, h⟩
  have hmode := h.1
  rw [← SweepRecord.refusesAcquire_iff]
  refine ⟨fun hbar => ?_, fun hbar hadm => ?_, fun hbar hadm hsweep => ?_, fun hbar hadm hsweep hlimit => ?_⟩
  · simp [State.serveAcquire, hwell, hmode, hbar]
  · simp [State.serveAcquire, hwell, hmode, hbar, hadm]
  · simp [State.serveAcquire, hwell, hmode, hbar, hadm, hsweep]
  · simp [State.serveAcquire, hwell, hmode, hbar, hadm, hsweep, hlimit]

/-- Settles O12. -/
theorem acquireRefusals : Obligations.AcquireRefusals := by
  rintro s a w0 w1 w2 w3 q rfl hreq
  rw [exec_acquire hreq]
  refine ⟨fun h => by rw [State.serveAcquire_of_malformed h]; rfl, fun m hm => ?_⟩
  obtain ⟨hbarred, hbounds, hsweeping, hlimit⟩ := State.serveAcquire_of_inRange hm a
  refine ⟨fun hb => ?_, fun hb ha => ?_, fun hb ha hs => ?_, fun hb ha hs hl => ?_⟩
  · rw [hbarred hb]; rfl
  · rw [hbounds hb ha]; rfl
  · rw [hsweeping hb ha hs]; rfl
  · rw [hlimit hb ha hs hl]; rfl

/-! ### ACQUIRE that meets an obstacle (R76, R78 to R81) -/

/-- The claim meets an obstacle of the immediate-grant test, and this reason is the first that applies (R76, R81). -/
def State.FirstObstacle (s : State) (g : Claim) (r : Reason) : Prop :=
  s.ConflictObstacle g ∧ r = .conflict ∨ ¬ s.ConflictObstacle g ∧ s.SweepObstacle g.range ∧ r = .sweep ∨
    ¬ s.ConflictObstacle g ∧ ¬ s.SweepObstacle g.range ∧ s.TableFull ∧ r = .noSlot

theorem State.exists_firstObstacle {s : State} {g : Claim} (h : s.ConflictObstacle g ∨ s.SweepObstacle g.range ∨ s.TableFull) :
    ∃ r, s.FirstObstacle g r := by
  by_cases hc : s.ConflictObstacle g
  · exact ⟨_, .inl ⟨hc, rfl⟩⟩
  · by_cases hs : s.SweepObstacle g.range
    · exact ⟨_, .inr (.inl ⟨hc, hs, rfl⟩)⟩
    · exact ⟨_, .inr (.inr ⟨hc, hs, (h.resolve_left hc).resolve_left hs, rfl⟩)⟩

/-- The immediate-grant test names the first obstacle (R76, R81). -/
theorem State.immediate_eq_blocked {s : State} {a : AgentNo} {m : ClaimMode} {range : GranuleRange} {r : Reason}
    (h : s.FirstObstacle ⟨.agent a, m, range⟩ r) : s.immediate ⟨.agent a, m, range⟩ = .blocked r := by
  simp only [State.FirstObstacle, ← State.conflictObstacle_iff, ← s.fencedAgainst_iff a m range, ← State.lowestFree_eq_none_iff,
    Bool.not_eq_true] at h
  obtain ⟨hc, rfl⟩ | ⟨hc, hs, rfl⟩ | ⟨hc, hs, hfull, rfl⟩ := h
  · simp [State.immediate, hc]
  · simp [State.immediate, hc, hs]
  · simp [State.immediate, hc, hs, hfull]

/-- An ACQUIRE that passes the refusals and meets an obstacle is answered as R78 to R81 say. -/
theorem exec_acquire_of_blocked {s : State} {a : AgentNo} {w0 w1 w2 w3 : Word} {m : LeaseMode} {r : Reason} {t : State}
    {x : Answer} (hgoes : s.AcquireGoesOn a w0 (acquireFields w0 w1 w2 w3) m)
    (hr : s.FirstObstacle ⟨.agent a, m.claimMode, (acquireFields w0 w1 w2 w3).range⟩ r)
    (h : s.blockedAcquire ((acquireFields w0 w1 w2 w3).entry a m) r (acquireFields w0 w1 w2 w3).waitLimit = (t, x)) :
    exec (.acquire w1 w2 w3) s = .next (t.withAnswer a x) := by
  have hblocked : s.immediate ((acquireFields w0 w1 w2 w3).entry a m).claim = .blocked r := State.immediate_eq_blocked hr
  rw [exec_acquire hgoes.1, State.serveAcquire_of_goesOn hgoes, State.acquireOrWait, hblocked]
  dsimp only
  rw [h]

/-- With wait limit 0 the request is refused at once (R78). -/
theorem State.blockedAcquire_of_noWait (s : State) (e : WaitEntry) (r : Reason) :
    s.blockedAcquire e r 0 = s.refuseAtOnce e.agent r := if_pos rfl

theorem State.blockedAcquire_of_tickets {s : State} {e : WaitEntry} {limit : BitVec 16} (hwait : limit ≠ 0)
    (ht : 4 ≤ s.ticketCount e.agent) (r : Reason) : s.blockedAcquire e r limit = (s, .plain .tickets) :=
  (if_neg hwait).trans (if_pos ht)

/-- A request that may wait looks for the lowest EMPTY cell (R80, R81). -/
theorem State.blockedAcquire_of_waits {s : State} {e : WaitEntry} {limit : BitVec 16} (hwait : limit ≠ 0)
    (ht : s.ticketCount e.agent < 4) (r : Reason) :
    ((∀ c, (s.cell c).state ≠ .empty) → s.blockedAcquire e r limit = (s.raise .waitFull e.agent.val, .plain .waitFull)) ∧
    ∀ c, s.LowestEmptyIs c → s.blockedAcquire e r limit = s.defer e r (waitTimer limit) c := by
  have hroom : ¬ Config.ticketsPerAgent ≤ s.ticketCount e.agent := Nat.not_le.2 ht
  refine ⟨fun hfull => ?_, fun c hc => ?_⟩
  · rw [State.blockedAcquire, if_neg hwait, if_neg hroom, s.lowestEmpty_eq_none_iff.2 hfull]
  · rw [State.blockedAcquire, if_neg hwait, if_neg hroom, (s.lowestEmpty_eq_some_iff c).2 hc]

/-- Settles O14: a request with wait limit 0 is refused by its first obstacle, any other by its tickets or for want of a cell. -/
theorem acquireTurnedAway : Obligations.AcquireTurnedAway := by
  rintro s a w0 w1 w2 w3 q m g rfl rfl hgoes
  refine ⟨fun hlimit hobstacle => ?_, fun hlimit hc hs hfull => ?_, fun hlimit hobstacle ht => ?_,
    fun hlimit hobstacle ht hcells => ?_⟩
  · obtain ⟨r, hr⟩ := State.exists_firstObstacle (g := ⟨.agent a, m.claimMode, _⟩) (hobstacle.imp_right .inl)
    refine exec_acquire_of_blocked hgoes hr ?_
    rw [hlimit, State.blockedAcquire_of_noWait]
    obtain ⟨_, rfl⟩ | ⟨_, _, rfl⟩ | ⟨hc, hs, _⟩ := hr
    · rfl
    · rfl
    · exact absurd hobstacle (not_or.2 ⟨hc, hs⟩)
  · refine exec_acquire_of_blocked hgoes (.inr (.inr ⟨hc, hs, hfull, rfl⟩)) ?_
    rw [hlimit, State.blockedAcquire_of_noWait]
    rfl
  · obtain ⟨r, hr⟩ := State.exists_firstObstacle (g := ⟨.agent a, m.claimMode, _⟩) hobstacle
    exact exec_acquire_of_blocked hgoes hr (State.blockedAcquire_of_tickets hlimit ht r)
  · obtain ⟨r, hr⟩ := State.exists_firstObstacle (g := ⟨.agent a, m.claimMode, _⟩) hobstacle
    exact exec_acquire_of_blocked hgoes hr ((State.blockedAcquire_of_waits hlimit ht r).1 hcells)

/-- The limit 65,535 waits without a timer; any other starts one (R81). -/
theorem waitTimer_eq {limit : BitVec 16} {left : Option Nat}
    (h : limit = 65535 ∧ left = none ∨ limit ≠ 65535 ∧ left = some (limit.toNat * 1000)) : waitTimer limit = left := by
  obtain ⟨hl, rfl⟩ | ⟨hl, rfl⟩ := h
  · exact if_pos hl
  · exact if_neg hl

/-- Settles O15. -/
theorem acquireDeferred : Obligations.AcquireDeferred := by
  rintro s a w0 w1 w2 w3 q m g c left r u rfl rfl hgoes hlimit ht hc hleft hr rfl
  refine exec_acquire_of_blocked hgoes hr (((State.blockedAcquire_of_waits hlimit ht r).2 c hc).trans ?_)
  rw [waitTimer_eq hleft]
  cases r <;> rfl

/-! ### RENEW (R69, R82 to R84) -/

theorem exec_renew {s : State} {a : AgentNo} {w0 : Word} (hreq : s.Requesting a w0 (some .renew)) (w1 w2 w3 : Word) :
    exec (.renew w1 w2 w3) s =
      .next ((s.serveRenew a (handleOf w1) (newTermOf w3)).1.withAnswer a (s.serveRenew a (handleOf w1) (newTermOf w3)).2) :=
  congrArg Host.Outcome.next (State.takeRequest_of_requesting hreq _)

theorem State.serveRenew_of_stale {s : State} {h : Handle} (hs : s.HandleStale h) (a : AgentNo) (n : BitVec 16) :
    s.serveRenew a h n = (s, .named .stale h.bits) := by
  simp [State.serveRenew, State.handleCurrent_of_stale hs]

theorem State.serveRenew_of_other {s : State} {a : AgentNo} {h : Handle} (ho : s.HandleOfOther a h) (n : BitVec 16) :
    s.serveRenew a h n = (s, .named .notOwner h.bits) := by
  obtain ⟨hcurrent, hown⟩ := State.of_handleOfOther ho
  simp [State.serveRenew, hcurrent, hown]

theorem State.serveRenew_of_lapsed {s : State} {h : Handle} {l : AgentLease} {r : Nat}
    (hslot : s.slot h.slot = ⟨h.generation, .lapsed l r⟩) (n : BitVec 16) :
    s.serveRenew l.owner h n = (s, .named .late h.bits) := by
  simp [State.serveRenew, State.handleCurrent_of_slot hslot rfl, hslot, SlotState.ownedBy, SlotState.lease?]

theorem State.serveRenew_of_revoked {s : State} {h : Handle} {l : AgentLease} {r : Nat}
    (hslot : s.slot h.slot = ⟨h.generation, .revoked l r⟩) (n : BitVec 16) :
    s.serveRenew l.owner h n = (s, .named .revoked h.bits) := by
  simp [State.serveRenew, State.handleCurrent_of_slot hslot rfl, hslot, SlotState.ownedBy, SlotState.lease?]

/-- The tests of a HELD lease, each met when those before it are passed (R84). -/
theorem State.renewRefusal_eq_some (s : State) (l : AgentLease) :
    (s.standing l.owner = .barred → s.renewRefusal l.owner l = some .barred) ∧
    (s.standing l.owner ≠ .barred → s.SweepMatches l.owner l.range → s.renewRefusal l.owner l = some .sweeping) ∧
    (s.standing l.owner ≠ .barred → ¬ s.SweepMatches l.owner l.range → l.budget = 0 →
      s.renewRefusal l.owner l = some .exhausted) ∧
    (s.standing l.owner ≠ .barred → ¬ s.SweepMatches l.owner l.range → l.budget ≠ 0 → s.yieldFlag = true →
      ¬ s.NoWaiterAgainst l.claim → s.renewRefusal l.owner l = some .yield) := by
  rw [← State.matchesLease_iff, ← State.waitedAgainst_eq_false_iff, Bool.not_eq_false]
  refine ⟨fun hbar => ?_, fun hbar hsweep => ?_, fun hbar hsweep hbudget => ?_, fun hbar hsweep hbudget hyield hwaiter => ?_⟩
  · exact if_pos hbar
  · rw [State.renewRefusal, if_neg hbar, if_pos hsweep]
  · rw [State.renewRefusal, if_neg hbar, if_neg hsweep, if_pos hbudget]
  · rw [State.renewRefusal, if_neg hbar, if_neg hsweep, if_neg hbudget, if_pos (Bool.and_eq_true_iff.2 ⟨hyield, hwaiter⟩)]

/-- A RENEW of the agent's own HELD lease that meets one of the tests of R84 is refused with its code and the handle (R69). -/
theorem exec_renew_of_refusal {s : State} {w0 w1 : Word} {l : AgentLease} {r : Nat} {x : AnswerCode}
    (hreq : s.Requesting l.owner w0 (some .renew))
    (hslot : s.slot (handleOf w1).slot = ⟨(handleOf w1).generation, .held l r⟩) (h : s.renewRefusal l.owner l = some x)
    (w2 w3 : Word) : exec (.renew w1 w2 w3) s = .next (s.withAnswer l.owner ⟨x, (handleOf w1).bits, 0⟩) := by
  rw [exec_renew hreq, State.serveRenew_of_held hslot, State.renewHeld, h]
  rfl

/-- Settles O16, by the handle, then by the state found, then by the tests of R84. -/
theorem renewRefusals : Obligations.RenewRefusals := by
  rintro s a w0 w1 w2 w3 h rfl hreq
  refine ⟨fun hs => ?_, fun ho => ?_, ?_⟩
  · rw [exec_renew hreq, State.serveRenew_of_stale hs]
    rfl
  · rw [exec_renew hreq, State.serveRenew_of_other ho]
    rfl
  · rintro l r rfl
    refine ⟨fun hslot => ?_, fun hslot => ?_, fun hslot => ?_⟩
    · rw [exec_renew hreq, State.serveRenew_of_lapsed hslot]
      rfl
    · rw [exec_renew hreq, State.serveRenew_of_revoked hslot]
      rfl
    · obtain ⟨hbarred, hsweeping, hexhausted, hyield⟩ := s.renewRefusal_eq_some l
      exact ⟨fun hb => exec_renew_of_refusal hreq hslot (hbarred hb) w2 w3,
        fun hb hs => exec_renew_of_refusal hreq hslot (hsweeping hb hs) w2 w3,
        fun hb hs hn => exec_renew_of_refusal hreq hslot (hexhausted hb hs hn) w2 w3,
        fun hb hs hn hy hw => exec_renew_of_refusal hreq hslot (hyield hb hs hn hy hw) w2 w3⟩

end Sys2Proof.Machine
end

section
/-! SUPPORT. The unknown request, and where requests, handles, tickets and answers are laid out (R68 to R70, R188, 13.2, 13.3). -/

namespace Sys2Proof.Machine

/-! ### Request words (13.2, 13.3) -/

/-- The code of a request kind (13.2). -/
def RequestKind.code : RequestKind → Nat
  | .acquire => 1
  | .renew => 2
  | .release => 3
  | .poll => 4
  | .withdraw => 5

theorem requestKindOf_eq_some_iff (w0 : Word) (k : RequestKind) :
    requestKindOf w0 = some k ↔ (w0.extractLsb' 0 4).toNat = k.code := by
  unfold requestKindOf fieldOf
  split <;> cases k <;> simp_all [RequestKind.code]

theorem requestKindOf_eq_none {w0 : Word} (h : (w0.extractLsb' 0 4).toNat ∉ [1, 2, 3, 4, 5]) : requestKindOf w0 = none := by
  refine Option.eq_none_iff_forall_ne_some.2 fun k hk => h ?_
  rw [(requestKindOf_eq_some_iff w0 k).1 hk]
  cases k <;> decide

/-- A request of an unknown kind is answered MALFORMED and changes nothing (R68, R70). -/
theorem exec_unknownRequest {s : State} {a : AgentNo} {w0 : Word} (hreq : s.Requesting a w0 none) (w1 w2 w3 : Word) :
    exec (.unknownRequest w1 w2 w3) s = .next (s.withAnswer a ⟨.malformed, 0, 0⟩) :=
  congrArg Host.Outcome.next (State.takeRequest_of_requesting hreq _)

theorem leaseModeOf_eq_some_iff (n : Nat) (m : LeaseMode) : leaseModeOf n = some m ↔ n = m.claimMode.code := by
  unfold leaseModeOf
  split <;> cases m <;> simp_all [LeaseMode.claimMode, ClaimMode.code]

theorem leaseModeOf_eq_none_iff (n : Nat) : leaseModeOf n = none ↔ 2 ≤ n := by
  unfold leaseModeOf
  split
  · simp
  · simp
  · next h0 h1 => exact iff_of_true rfl ((Nat.two_le_iff n).2 ⟨h0, h1⟩)

/-! ### Handles, tickets and answers (R29, R69, R92, 13.3) -/

theorem handleOf_slot (w : Word) : (handleOf w).slot.val = (w.extractLsb' 0 7).toNat :=
  Nat.mod_eq_of_lt (w.extractLsb' 0 7).isLt

theorem ticketOf_cell (w : Word) : (ticketOf w).cell.val = (w.extractLsb' 0 6).toNat :=
  Nat.mod_eq_of_lt (w.extractLsb' 0 6).isLt

theorem Handle.bits_toNat (h : Handle) : h.bits.toNat = h.slot.val + h.generation.toNat * 128 := by
  have hslot := h.slot.isLt
  have hgeneration := h.generation.isLt
  rw [Handle.bits, BitVec.toNat_ofNat, Nat.mod_eq_of_lt (by omega)]

theorem Ticket.bits_toNat (t : Ticket) : t.bits.toNat = t.cell.val + t.generation.toNat * 64 := by
  have hcell := t.cell.isLt
  have hgeneration := t.generation.isLt
  rw [Ticket.bits, BitVec.toNat_ofNat, Nat.mod_eq_of_lt (by omega)]

theorem AnswerCode.code_lt (c : AnswerCode) : c.code < 2 ^ 8 := by
  cases c <;> decide

theorem Answer.word0_toNat (x : Answer) : x.word0.toNat = x.code.code + x.name.toNat * 256 := by
  have hcode : (placeField x.code.code 0 8).toNat = x.code.code := by
    rw [placeField_toNat x.code.code_lt (by decide), Nat.pow_zero, Nat.mul_one]
  rw [Answer.word0, or_placeField_toNat (hcode.symm ▸ x.code.code_lt) x.name.isLt (by decide), hcode]
  rfl

/-- The code, the name and the bits that stay 0 of answer word 0 (R69, R188). -/
theorem Answer.word0_places (x : Answer) :
    x.word0.extractLsb' 0 8 = BitVec.ofNat 8 x.code.code ∧ x.word0.extractLsb' 8 16 = x.name ∧
      x.word0.extractLsb' 24 8 = 0 := by
  have hcode := x.code.code_lt
  have hname := x.name.isLt
  refine ⟨BitVec.eq_of_toNat_eq ?_, BitVec.eq_of_toNat_eq ?_, BitVec.eq_of_toNat_eq ?_⟩
  all_goals
    simp only [BitVec.extractLsb'_toNat, Answer.word0_toNat, Nat.shiftRight_eq_div_pow, BitVec.ofNat_eq_ofNat, BitVec.toNat_ofNat]
    omega

/-- Settles O10: the unknown request, the request words, the names and answers, and the codes of 13.2. -/
theorem unknownRequestAndFieldPlaces : Obligations.UnknownRequestAndFieldPlaces := by
  refine ⟨fun s a w0 w1 w2 w3 ht hk => exec_unknownRequest ⟨ht, requestKindOf_eq_none hk⟩ w1 w2 w3,
    fun w0 => ⟨requestKindOf_eq_some_iff w0 .acquire, requestKindOf_eq_some_iff w0 .renew, requestKindOf_eq_some_iff w0 .release,
      requestKindOf_eq_some_iff w0 .poll, requestKindOf_eq_some_iff w0 .withdraw⟩, ?_,
    fun w => ⟨handleOf_slot w, rfl, ticketOf_cell w, rfl⟩, Handle.bits_toNat, Ticket.bits_toNat, fun x => ?_,
    rfl, rfl, rfl, rfl, rfl, rfl, rfl, rfl, rfl⟩
  · rintro w0 w1 w2 w3 q rfl
    exact ⟨leaseModeOf_eq_some_iff _ .shared, leaseModeOf_eq_some_iff _ .exclusive, leaseModeOf_eq_none_iff _, rfl, rfl, rfl, rfl,
      rfl⟩
  · obtain ⟨hcode, hname, hrest⟩ := x.word0_places
    exact ⟨hcode, hname, hrest, rfl⟩

end Sys2Proof.Machine
end

section
/-! SUPPORT. What no row touches: the queue of commands, which exec leaves alone (log 20), and an answer formed, which stands in the
tenure until it is read (R67, R188). One relation holds both, and every row but TENURE_END, DETACH, RESET and power-on keeps it. -/

namespace Sys2Proof.Machine

/-- From `s` to `t` the queue stays, and an answer formed stands. -/
structure State.KeepsAnswer (s t : State) : Prop where
  pending : t.pending = s.pending := by rfl
  tenure : ∀ a a0 a1, s.tenure = some ⟨a, .answered a0 a1⟩ → t.tenure = s.tenure := by exact fun _ _ _ _ => rfl

theorem State.KeepsAnswer.refl (s : State) : s.KeepsAnswer s := {}

theorem State.KeepsAnswer.trans {s t u : State} (h : s.KeepsAnswer t) (h' : t.KeepsAnswer u) : s.KeepsAnswer u where
  pending := h'.pending.trans h.pending
  tenure a a0 a1 hs := (h'.tenure a a0 a1 ((h.tenure a a0 a1 hs).trans hs)).trans (h.tenure a a0 a1 hs)

/-! ### The shared operations -/

theorem State.KeepsAnswer.grantPass {s t : State} (h : s.KeepsAnswer t) : s.KeepsAnswer t.grantPass :=
  h.trans ⟨by rw [State.grantPass_frame], fun _ _ _ _ => t.grantPass_tenure⟩

theorem State.KeepsAnswer.passIfReadied {s t : State} (h : s.KeepsAnswer t) (before : State) :
    s.KeepsAnswer (before.passIfReadied t) := by
  unfold State.passIfReadied
  split
  · exact h.grantPass
  · exact h

theorem State.KeepsAnswer.conclude {s t : State} (h : s.KeepsAnswer t) (r : ResultCode) : s.KeepsAnswer (t.conclude r) :=
  h.trans {}

theorem State.KeepsAnswer.finish {s t : State} (h : s.KeepsAnswer t) (r : ResultCode) (v w : Word) :
    s.KeepsAnswer (t.finish r v w) := h.trans {}

theorem State.KeepsAnswer.raise {s t : State} (h : s.KeepsAnswer t) (x : Source) (d : Nat) : s.KeepsAnswer (t.raise x d) :=
  h.trans {}

theorem State.keepsAnswer_standingChanged (s : State) (a : AgentNo) (old : Standing) :
    s.KeepsAnswer (s.standingChanged a old) := by
  rw [State.standingChanged_frame]
  exact {}

theorem State.keepsAnswer_updateConduct (s : State) (a : AgentNo) (r : AgentRecord) : s.KeepsAnswer (s.updateConduct a r) := by
  rw [State.updateConduct_frame]
  exact {}

theorem State.keepsAnswer_charge (s : State) (a : AgentNo) (n : ScoreName) : s.KeepsAnswer (s.charge a n) :=
  s.keepsAnswer_updateConduct a _

theorem State.keepsAnswer_credit (s : State) (a : AgentNo) : s.KeepsAnswer (s.credit a) := s.keepsAnswer_updateConduct a _

theorem State.keepsAnswer_freeReserved (s : State) (k : SlotNo) : s.KeepsAnswer (s.freeReserved k) := by
  unfold State.freeReserved
  split <;> exact {}

theorem State.keepsAnswer_collectSlot (s : State) (k : SlotNo) : s.KeepsAnswer (s.collectSlot k) := by
  unfold State.collectSlot
  split <;> exact {}

theorem State.keepsAnswer_cancelGrant (s : State) (c : CellNo) : s.KeepsAnswer (s.cancelGrant c) := by
  unfold State.cancelGrant
  split <;> exact {}

theorem State.keepsAnswer_unlessReset {s : State} {f : State → State} (h : s.KeepsAnswer (f s)) :
    s.KeepsAnswer (s.unlessReset f) := by
  unfold State.unlessReset
  split
  · exact .refl s
  · exact h

/-! ### Requests (R68 to R108) -/

/-- A request row finds no request to take while an answer stands (R63). -/
theorem State.keepsAnswer_takeRequest {s : State} {kind : Option RequestKind} {serve : AgentNo → Word → State × Answer}
    (h : ∀ a w0, s.KeepsAnswer (serve a w0).1) : s.KeepsAnswer (s.takeRequest kind serve) := by
  by_cases hq : ∃ a w0, s.Requesting a w0 kind
  · obtain ⟨a, w0, hq⟩ := hq
    rw [State.takeRequest_of_requesting hq]
    exact ⟨(h a w0).pending, fun b a0 a1 hs => absurd (hq.1.symm.trans hs) nofun⟩
  · rw [State.takeRequest_of_not fun a w0 h => hq ⟨a, w0, h⟩]
    exact {}

theorem State.keepsAnswer_defer (s : State) (e : WaitEntry) (r : Reason) (wait : Option Nat) (c : CellNo) :
    s.KeepsAnswer (s.defer e r wait c).1 := by
  cases r <;> exact {}

theorem State.keepsAnswer_acquireOrWait (s : State) (e : WaitEntry) (limit : BitVec 16) :
    s.KeepsAnswer (s.acquireOrWait e limit).1 := by
  unfold State.acquireOrWait
  split
  · exact {}
  · next r _ =>
    unfold State.blockedAcquire
    split_ifs
    · cases r <;> exact {}
    · exact .refl s
    · split
      · exact {}
      · exact s.keepsAnswer_defer e r _ _

theorem State.keepsAnswer_serveAcquire (s : State) (a : AgentNo) (q : AcquireFields) : s.KeepsAnswer (s.serveAcquire a q).1 := by
  obtain h | ⟨m, _, h⟩ := s.serveAcquire_refused_or_goesOn a q
  · rw [h]
    exact .refl s
  · rw [h]
    exact s.keepsAnswer_acquireOrWait _ _

theorem State.keepsAnswer_serveRenew (s : State) (a : AgentNo) (h : Handle) (n : BitVec 16) :
    s.KeepsAnswer (s.serveRenew a h n).1 := by
  unfold State.serveRenew
  split_ifs
  · exact .refl s
  · exact .refl s
  · cases (s.slot h.slot).state with
    | held l r =>
      dsimp only
      unfold State.renewHeld
      split <;> exact {}
    | _ => exact .refl s

theorem State.keepsAnswer_serveRelease (s : State) (a : AgentNo) (h : Handle) : s.KeepsAnswer (s.serveRelease a h).1 := by
  have hfree : s.KeepsAnswer (s.freeSlot h.slot) := {}
  unfold State.serveRelease
  split_ifs
  · exact .refl s
  · exact .refl s
  · cases (s.slot h.slot).state with
    | held l r => exact (hfree.trans (State.keepsAnswer_credit _ a)).grantPass
    | lapsed l r => exact hfree.grantPass
    | revoked l r => exact hfree.grantPass
    | _ => exact .refl s

theorem State.keepsAnswer_emptyCell (s : State) (c : CellNo) : s.KeepsAnswer (s.emptyCell c) := {}

theorem State.keepsAnswer_servePoll (s : State) (a : AgentNo) (t : Ticket) : s.KeepsAnswer (s.servePoll a t).1 := by
  unfold State.servePoll
  split_ifs
  · exact .refl s
  · exact .refl s
  · cases (s.cell t.cell).state with
    | granted e left k => exact (s.keepsAnswer_collectSlot k).trans (State.keepsAnswer_emptyCell _ _)
    | ended e o left => exact s.keepsAnswer_emptyCell _
    | _ => exact .refl s

theorem State.keepsAnswer_serveWithdraw (s : State) (a : AgentNo) (t : Ticket) : s.KeepsAnswer (s.serveWithdraw a t).1 := by
  unfold State.serveWithdraw
  split_ifs
  · exact .refl s
  · exact .refl s
  · cases (s.cell t.cell).state with
    | waiting e r w => exact (s.keepsAnswer_emptyCell _).grantPass
    | granted e left k =>
      exact ((s.keepsAnswer_freeReserved k).trans (State.keepsAnswer_emptyCell _ _)).grantPass
    | ended e o left => exact s.keepsAnswer_emptyCell _
    | empty => exact .refl s

/-! ### What an outcome comes to -/

/-- The outcome is a next state with the same queue, in which an answer formed stands. -/
def KeepsAnswerTo (s : State) (o : Host.Outcome State Fault Refusal) : Prop := ∃ t, o = .next t ∧ s.KeepsAnswer t

theorem State.KeepsAnswer.next {s t : State} (h : s.KeepsAnswer t) : KeepsAnswerTo s (.next t) := ⟨t, rfl, h⟩

theorem keepsAnswerTo_takeRequest {s : State} {kind : Option RequestKind} {serve : AgentNo → Word → State × Answer}
    (h : ∀ a w0, s.KeepsAnswer (serve a w0).1) : KeepsAnswerTo s (.next (s.takeRequest kind serve)) :=
  (State.keepsAnswer_takeRequest h).next

theorem keepsAnswerTo_unlessReset {s : State} {f : State → State} (h : s.KeepsAnswer (f s)) :
    KeepsAnswerTo s (.next (s.unlessReset f)) := (State.keepsAnswer_unlessReset h).next

/-! ### The bus (R60, R63, R64) -/

/-- With an answer formed the bus is not free, and no choice is made (R60). -/
theorem State.keepsAnswer_choose (s : State) : s.KeepsAnswer s.choose := by
  unfold State.choose
  split
  · exact .refl s
  · next ht =>
    split
    · next b _ =>
      refine ⟨?_, fun a a0 a1 hs => absurd (ht.symm.trans hs) nofun⟩
      unfold State.grantBus
      split <;> rfl
    · exact .refl s

theorem execArbiterChoice_keepsAnswer (req : Word) (s : State) : KeepsAnswerTo s (execArbiterChoice req s) := by
  have hreq : s.KeepsAnswer { s with req := req } := {}
  exact (hreq.trans (State.keepsAnswer_unlessReset (State.keepsAnswer_choose _))).next

theorem execTenureLimitExpiry_keepsAnswer (s : State) : KeepsAnswerTo s (execTenureLimitExpiry s) := by
  refine State.KeepsAnswer.next ?_
  split
  · next b ht => exact ⟨rfl, fun a a0 a1 hs => absurd (ht.symm.trans hs) nofun⟩
  · exact .refl s

theorem execFirstRequestWord_keepsAnswer (w0 : Word) (s : State) : KeepsAnswerTo s (execFirstRequestWord w0 s) := by
  refine State.KeepsAnswer.next ?_
  split
  · next b n ht => exact ⟨rfl, fun a a0 a1 hs => absurd (ht.symm.trans hs) nofun⟩
  · exact {}

/-! ### Expiries, visits and the check port -/

theorem State.keepsAnswer_lapse (s : State) (k : SlotNo) (l : AgentLease) : s.KeepsAnswer (s.lapse k l) := by
  have hslot : s.KeepsAnswer (s.setSlotState k (.lapsed l s.holdAmount)) := {}
  refine State.KeepsAnswer.raise ?_ _ _
  unfold State.chargeLapse
  split
  · exact hslot.trans (State.keepsAnswer_charge _ _ _)
  · exact hslot

theorem execTermExpiry_keepsAnswer (k : SlotNo) (s : State) : KeepsAnswerTo s (execTermExpiry k s) := by
  refine State.KeepsAnswer.next ?_
  split
  · next l _ =>
    unfold State.termRunsOut
    split_ifs
    · exact .refl s
    · exact {}
    · exact (s.keepsAnswer_lapse k l).passIfReadied s
  · exact .refl s

theorem execHoldExpiry_keepsAnswer (k : SlotNo) (s : State) : KeepsAnswerTo s (execHoldExpiry k s) := by
  have hfreed : s.KeepsAnswer (if s.frozen then s else (s.freeSlot k).grantPass) := by
    split
    · exact .refl s
    · exact State.KeepsAnswer.grantPass (t := s.freeSlot k) {}
  refine State.KeepsAnswer.next ?_
  split
  · exact hfreed
  · exact hfreed
  · exact .refl s

theorem execWaitLimitExpiry_keepsAnswer (c : CellNo) (s : State) : KeepsAnswerTo s (execWaitLimitExpiry c s) := by
  refine State.KeepsAnswer.next ?_
  split
  · split
    · exact .refl s
    · exact State.KeepsAnswer.grantPass (t := s.readyCell c .timedOut) {}
  · exact .refl s

theorem State.keepsAnswer_abandonGrant (s : State) (c : CellNo) (a : AgentNo) (k : SlotNo) :
    s.KeepsAnswer (s.abandonGrant c a k) := by
  have hcharge := ((s.keepsAnswer_freeReserved k).trans (State.keepsAnswer_emptyCell _ c)).trans
    (State.keepsAnswer_charge _ a .abandon)
  exact (hcharge.raise .ticketAbandoned a.val).grantPass

theorem execCollectionExpiry_keepsAnswer (c : CellNo) (s : State) : KeepsAnswerTo s (execCollectionExpiry c s) := by
  refine State.KeepsAnswer.next ?_
  split
  · split
    · exact .refl s
    · exact s.keepsAnswer_abandonGrant c _ _
  · split
    · exact .refl s
    · exact s.keepsAnswer_emptyCell c
  · exact .refl s

theorem State.keepsAnswer_takePresented (s : State) : s.KeepsAnswer s.takePresented := by
  unfold State.takePresented
  split
  · exact .refl s
  · split_ifs <;> exact {}

theorem State.keepsAnswer_presentNext (s : State) : s.KeepsAnswer s.presentNext := by
  unfold State.presentNext
  split
  · exact State.KeepsAnswer.trans (t := { s with presented := _, heldLookups := _, ckAnswer := none }) {}
      (State.keepsAnswer_takePresented _)
  · exact .refl s

theorem execTrespassCharge_keepsAnswer (s : State) : KeepsAnswerTo s (execTrespassCharge s) := by
  refine State.KeepsAnswer.next ?_
  split
  · exact .refl s
  · next a rest _ =>
    have htaken : s.KeepsAnswer { s with charges := rest } := {}
    exact ((htaken.trans (State.keepsAnswer_charge _ a _)).passIfReadied s).trans (State.keepsAnswer_takePresented _)

theorem State.keepsAnswer_visitAction (s : State) (k : SlotNo) : s.KeepsAnswer (s.visitAction k).1 := by
  unfold State.visitAction
  cases (s.slot k).state with
  | held l r =>
    dsimp only
    split <;> exact {}
  | lapsed l r =>
    dsimp only
    split <;> exact {}
  | reserved l c =>
    dsimp only
    split
    · exact State.KeepsAnswer.trans (t := s.freeSlot k) {} (State.keepsAnswer_cancelGrant _ c)
    · exact .refl s
  | _ => exact .refl s

theorem State.keepsAnswer_visitSlot (s : State) (k : SlotNo) : s.KeepsAnswer (s.visitSlot k) := by
  have haction := s.keepsAnswer_visitAction k
  unfold State.visitSlot
  generalize s.visitAction k = r at haction
  have hadvanced : s.KeepsAnswer { r.1 with sweep := r.1.sweep.advanced (k.val + 1) r.2.2 } := haction.trans {}
  dsimp only
  split_ifs
  · exact (hadvanced.trans (u := State.endSweep _ .completed) {}).grantPass
  · exact hadvanced.grantPass
  · exact hadvanced

theorem execVisit_keepsAnswer (s : State) : KeepsAnswerTo s (execVisit s) := by
  refine State.KeepsAnswer.next ?_
  split_ifs
  · exact s.keepsAnswer_visitSlot _
  · exact .refl s
  · exact .refl s

/-! ### Host commands and writes (R163 to R189) -/

theorem State.keepsAnswer_setAgentCommand (s : State) : s.KeepsAnswer s.setAgentCommand := by
  unfold State.setAgentCommand
  split
  · exact {}
  · next a _ =>
    split
    · exact {}
    · refine State.KeepsAnswer.finish ?_ _ _ _
      unfold State.applySetAgent
      have hconduct := s.keepsAnswer_updateConduct a (((s.agent a).withPortPart s.params).withConductPart s.params)
      dsimp only
      split
      · exact hconduct.grantPass
      · exact hconduct.passIfReadied s

theorem State.keepsAnswer_clearAgentCommand (s : State) : s.KeepsAnswer s.clearAgentCommand := by
  unfold State.clearAgentCommand
  split
  · exact {}
  · next a _ => exact (s.keepsAnswer_updateConduct a _).finish _ _ _

theorem State.keepsAnswer_startSweep (s : State) : s.KeepsAnswer s.startSweep := by
  unfold State.startSweep
  split
  · exact {}
  · split
    · exact {}
    · next k _ =>
      refine State.KeepsAnswer.finish ?_ _ _ _
      exact State.KeepsAnswer.passIfReadied
        (t := State.readyWhere { s with sweep := ⟨.inProgress, some k, 0, 0, 9⟩ } k.cancels .cancelled) {} s

theorem State.keepsAnswer_abortSweep (s : State) : s.KeepsAnswer s.abortSweep := by
  unfold State.abortSweep
  split
  · exact (State.KeepsAnswer.grantPass (t := s.endSweep .aborted) {}).conclude _
  · exact {}

theorem State.keepsAnswer_deriveAll (s before : State) : s.KeepsAnswer (s.deriveAll before) := by
  unfold State.deriveAll
  generalize List.finRange 32 = as
  induction as generalizing s with
  | nil => exact .refl s
  | cons a as ih => exact (s.keepsAnswer_standingChanged a _).trans (ih _)

theorem State.keepsAnswer_loadProfile (s : State) : s.KeepsAnswer s.loadProfile := by
  unfold State.loadProfile
  split
  · exact {}
  · have hwritten : s.KeepsAnswer (s.writeProfile (readProfile s.staging)) := {}
    exact ((hwritten.trans (State.keepsAnswer_deriveAll _ s)).passIfReadied s).finish _ _ _

theorem State.keepsAnswer_lock (s : State) :
    s.KeepsAnswer (if s.lock then s.conclude .ignored else { s with lock := true }.conclude .done) := by
  split <;> exact {}

theorem State.keepsAnswer_readRecord (s : State) (image : Option (Vector Word 12)) : s.KeepsAnswer (s.readRecord image) := by
  unfold State.readRecord
  split
  · exact {}
  · split <;> exact {}

theorem State.keepsAnswer_dropSnapshot (s : State) : s.KeepsAnswer s.dropSnapshot := by
  unfold State.dropSnapshot
  split <;> exact {}

theorem State.keepsAnswer_setFence (s : State) (r : GranuleRange) : s.KeepsAnswer (s.setFence r) := by
  unfold State.setFence
  split_ifs
  · exact {}
  · exact {}
  · split <;> exact {}

theorem State.keepsAnswer_clearFence (s : State) (h : Handle) : s.KeepsAnswer (s.clearFence h) := by
  unfold State.clearFence
  split
  · split
    · exact (State.KeepsAnswer.grantPass (t := s.freeSlot h.slot) {}).conclude _
    · exact {}
  · exact {}

theorem State.keepsAnswer_revokePair (s : State) (h : Handle) : s.KeepsAnswer (s.revokePair h) := by
  unfold State.revokePair
  split
  · cases (s.slot h.slot).state with
    | held l r => exact (State.KeepsAnswer.grantPass (t := s.revokeLease h.slot l) {}).finish _ _ _
    | lapsed l r => exact (State.KeepsAnswer.grantPass (t := s.revokeLease h.slot l) {}).finish _ _ _
    | reserved l c =>
      exact (State.KeepsAnswer.trans (t := s.freeSlot h.slot) {} (State.keepsAnswer_cancelGrant _ c)).grantPass.finish _ _ _
    | _ => exact {}
  · exact {}

theorem State.keepsAnswer_cancelTicket (s : State) (t : Ticket) : s.KeepsAnswer (s.cancelTicket t) := by
  unfold State.cancelTicket
  split
  · exact {}
  · split
    · exact (State.KeepsAnswer.grantPass (t := s.readyCell t.cell .cancelled) {}).finish _ _ _
    · exact {}
    · exact {}
    · exact {}

theorem writeCommandWord_keepsAnswer (code : BitVec 8) (s : State) : KeepsAnswerTo s (writeCommandWord code s) := by
  unfold writeCommandWord
  split
  · exact keepsAnswerTo_unlessReset {}
  · exact keepsAnswerTo_unlessReset {}
  · exact keepsAnswerTo_unlessReset s.keepsAnswer_setAgentCommand
  · exact keepsAnswerTo_unlessReset s.keepsAnswer_clearAgentCommand
  · exact keepsAnswerTo_unlessReset s.keepsAnswer_startSweep
  · exact keepsAnswerTo_unlessReset s.keepsAnswer_abortSweep
  · exact keepsAnswerTo_unlessReset s.keepsAnswer_loadProfile
  · exact keepsAnswerTo_unlessReset s.keepsAnswer_lock
  · exact keepsAnswerTo_unlessReset ((State.KeepsAnswer.grantPass (t := s.cleared) {}).conclude _)
  · exact keepsAnswerTo_unlessReset (s.keepsAnswer_readRecord _)
  · exact keepsAnswerTo_unlessReset (s.keepsAnswer_readRecord _)
  · exact keepsAnswerTo_unlessReset (s.keepsAnswer_readRecord _)
  · exact keepsAnswerTo_unlessReset (s.keepsAnswer_readRecord _)
  · exact keepsAnswerTo_unlessReset s.keepsAnswer_dropSnapshot
  · exact keepsAnswerTo_unlessReset (s.keepsAnswer_setFence _)
  · exact keepsAnswerTo_unlessReset (s.keepsAnswer_clearFence _)
  · exact keepsAnswerTo_unlessReset (s.keepsAnswer_revokePair _)
  · exact keepsAnswerTo_unlessReset (s.keepsAnswer_cancelTicket _)
  · exact keepsAnswerTo_unlessReset {}

theorem State.keepsAnswer_storeWord (s : State) (n : Nat) (data : Word) : s.KeepsAnswer (s.storeWord n data) := by
  unfold State.storeWord
  split_ifs <;> exact {}

theorem execRegisterWrite_keepsAnswer (addr : BitVec 6) (data : Word) (s : State) :
    KeepsAnswerTo s (execRegisterWrite addr data s) := by
  unfold execRegisterWrite
  split
  · exact writeCommandWord_keepsAnswer _ s
  · exact keepsAnswerTo_unlessReset {}
  · exact keepsAnswerTo_unlessReset {}
  · exact keepsAnswerTo_unlessReset {}
  · exact keepsAnswerTo_unlessReset (s.keepsAnswer_storeWord _ data)

/-! ### DETACH (R65, R121) -/

/-- A DETACH leaves the queue alone, and ends no tenure but the agent's own (R65). -/
theorem execDetach_keeps (a : AgentNo) (s : State) :
    ∃ t, execDetach a s = .next t ∧ t.pending = s.pending ∧ ((∀ p, s.tenure ≠ some ⟨a, p⟩) → t.tenure = s.tenure) := by
  refine ⟨_, rfl, ?_⟩
  split
  · unfold State.unlessReset
    split
    · exact ⟨rfl, fun _ => rfl⟩
    · have hpass := (State.KeepsAnswer.refl ((s.lineLowered a).detachedBeforePass a)).grantPass
      refine ⟨hpass.pending.trans (by rw [State.detachedBeforePass_frame]; rfl), fun h => ?_⟩
      refine (State.grantPass_tenure ((s.lineLowered a).detachedBeforePass a)).trans ?_
      rw [State.tenure_detachedBeforePass, State.endTenureOf_of_not (s := s.lineLowered a) h]
      rfl
  · exact ⟨rfl, fun _ => rfl⟩

/-! ### Every row -/

/-- Every row but the four that may discard or hand over an answer keeps it. -/
theorem exec_keepsAnswer {c : Instr} (hend : c ≠ .tenureEnd) (hdetach : ∀ a, c ≠ .detach a) (hreset : c ≠ .resetHeld)
    (hpower : ∀ g n l, c ≠ .powerOn g n l) (s : State) : KeepsAnswerTo s (exec c s) := by
  have command {n : Nat} (hc : c.commandCode = some n) : KeepsAnswerTo s (exec c s) :=
    exec_eq_writeCommandWord hc s ▸ writeCommandWord_keepsAnswer _ s
  cases c with
  | acquire w1 w2 w3 => exact keepsAnswerTo_takeRequest fun _ _ => s.keepsAnswer_serveAcquire _ _
  | renew w1 w2 w3 => exact keepsAnswerTo_takeRequest fun _ _ => s.keepsAnswer_serveRenew _ _ _
  | release w1 w2 w3 => exact keepsAnswerTo_takeRequest fun _ _ => s.keepsAnswer_serveRelease _ _
  | poll w1 w2 w3 => exact keepsAnswerTo_takeRequest fun _ _ => s.keepsAnswer_servePoll _ _
  | withdraw w1 w2 w3 => exact keepsAnswerTo_takeRequest fun _ _ => s.keepsAnswer_serveWithdraw _ _
  | unknownRequest w1 w2 w3 => exact keepsAnswerTo_takeRequest fun _ _ => .refl s
  | arbiterChoice req => exact execArbiterChoice_keepsAnswer req s
  | tenureEnd => exact absurd rfl hend
  | tenureLimitExpiry => exact execTenureLimitExpiry_keepsAnswer s
  | attach a => exact State.KeepsAnswer.next {}
  | detach a => exact absurd rfl (hdetach a)
  | powerOn g n l => exact absurd rfl (hpower g n l)
  | termExpiry k => exact execTermExpiry_keepsAnswer k s
  | holdExpiry k => exact execHoldExpiry_keepsAnswer k s
  | waitLimitExpiry c => exact execWaitLimitExpiry_keepsAnswer c s
  | collectionExpiry c => exact execCollectionExpiry_keepsAnswer c s
  | lookup a addr kind =>
    exact (State.KeepsAnswer.trans (t := { s with heldLookups := s.heldLookups ++ [⟨a, addr, kind⟩] }) {}
      (State.keepsAnswer_presentNext _)).next
  | trespassCharge => exact execTrespassCharge_keepsAnswer s
  | visit => exact execVisit_keepsAnswer s
  | unknownCommand code => exact writeCommandWord_keepsAnswer code s
  | closingRead => exact State.KeepsAnswer.next {}
  | enableWrite data => exact keepsAnswerTo_unlessReset {}
  | globalEnableWrite on => exact keepsAnswerTo_unlessReset {}
  | elevateWrite field => exact keepsAnswerTo_unlessReset {}
  | acknowledge data => exact keepsAnswerTo_unlessReset {}
  | registerWrite addr data => exact execRegisterWrite_keepsAnswer addr data s
  | firstRequestWord w0 => exact execFirstRequestWord_keepsAnswer w0 s
  | resetHeld => exact absurd rfl hreset
  | _ => exact command rfl

theorem execTenureEnd_pending (s : State) : ∃ t, execTenureEnd s = .next t ∧ t.pending = s.pending := by
  refine ⟨_, rfl, ?_⟩
  split <;> rfl

/-- Settles O2: the rows that end an answer answer a next state with the same queue too. -/
theorem everyCommandAnswersNext : Obligations.EveryCommandAnswersNext := by
  intro c s
  by_cases h : c ≠ .tenureEnd ∧ (∀ a, c ≠ .detach a) ∧ c ≠ .resetHeld ∧ ∀ g n l, c ≠ .powerOn g n l
  · obtain ⟨hend, hdetach, hreset, hpower⟩ := h
    obtain ⟨t, ht, hkeeps⟩ := exec_keepsAnswer hend hdetach hreset hpower s
    exact ⟨t, ht, hkeeps.pending⟩
  · cases c with
    | tenureEnd => exact execTenureEnd_pending s
    | detach a =>
      obtain ⟨t, ht, hpending, _⟩ := execDetach_keeps a s
      exact ⟨t, ht, hpending⟩
    | resetHeld => exact ⟨_, rfl, (State.keepsAnswer_takePresented s.resetAsserted).pending⟩
    | powerOn g n l => exact ⟨_, rfl, rfl⟩
    | _ => exact absurd ⟨nofun, nofun, nofun, nofun⟩ h

/-- Settles O11: of the rows left, only a DETACH may end a tenure, and this one is another agent's. -/
theorem answersStandUntilRead : Obligations.AnswersStandUntilRead := by
  intro c s t a a0 a1 htenure ht hend hdetach hreset hpower
  by_cases hd : ∃ b, c = .detach b
  · obtain ⟨b, rfl⟩ := hd
    obtain ⟨u, hu, _, hstands⟩ := execDetach_keeps b s
    cases hu.symm.trans ht
    refine hstands fun p hp => hdetach ?_
    cases htenure.symm.trans hp
    rfl
  · obtain ⟨u, hu, hkeeps⟩ := exec_keepsAnswer hend (fun b hb => hd ⟨b, hb⟩) hreset hpower s
    cases hu.symm.trans ht
    exact hkeeps.tenure a a0 a1 htenure

end Sys2Proof.Machine
end

section
/-! SUPPORT. What every step keeps of the Wait List's order: an older WAITING entry is not overtaken by a conflicting younger grant
(R102). -/

namespace Sys2Proof.Machine

/-! ### Grants across a change -/

/-- A move makes no grant, and keeps the entry and the slot of one that stays (R91). -/
theorem CellMove.grant {s : State} {x y : CellState} (h : CellMove s x y) {g : WaitEntry × SlotNo} (hg : y.grant? = some g) :
    x.grant? = some g := by
  cases h with
  | stays => exact hg
  | readied => cases hg
  | grantCancelled => cases hg
  | elapsed d => cases x <;> exact hg

theorem CellState.ne_empty_of_grant {x : CellState} {g : WaitEntry × SlotNo} (h : x.grant? = some g) : x ≠ .empty := by
  rintro rfl
  cases h

/-- The order law speaks of WAITING entries and grants alone (R102). -/
theorem State.noneOvertaken_iff (s : State) :
    s.NoneOvertaken ↔ ∀ c d o g, c ∈ s.ahead d → (s.cell c).state.waiting? = some o → (s.cell d).state.grant? = some g →
      o.claim.conflicts g.1.claim = false := by
  constructor
  · rintro hs c d o ⟨e, k⟩ hahead hwait hgrant
    obtain ⟨left, hd⟩ := (CellState.grant?_eq_some_iff _ _ _).1 hgrant
    exact hs c d o e left k hahead hwait hd
  · intro hs c d o e left k hahead hwait hd
    exact hs c d o (e, k) hahead hwait (by rw [hd]; rfl)

/-- Nobody is overtaken where every grant, and every WAITING entry ahead of one, stood in the same order before. -/
theorem State.NoneOvertaken.of_earlier {s t : State} (hs : s.NoneOvertaken)
    (hgrant : ∀ d g, (t.cell d).state.grant? = some g → (s.cell d).state.grant? = some g)
    (hwait : ∀ c d o g, (t.cell d).state.grant? = some g → c ∈ t.ahead d → (t.cell c).state.waiting? = some o →
      c ∈ s.ahead d ∧ (s.cell c).state.waiting? = some o) : t.NoneOvertaken := by
  rw [State.noneOvertaken_iff] at hs ⊢
  intro c d o g hahead hc hd
  obtain ⟨hahead', hc'⟩ := hwait c d o g hd hahead hc
  exact hs c d o g hahead' hc' (hgrant d g hd)

theorem State.NoneOvertaken.congr {s t : State} (h : SameTables s t) (hs : s.NoneOvertaken) : t.NoneOvertaken := by
  simpa only [State.NoneOvertaken, State.ahead, State.cell_sameTables h, h.order] using hs

/-! ### The order across a change -/

/-- What stands ahead of an element that a filter keeps stood ahead of it before the filter. -/
theorem mem_takeWhile_of_mem_takeWhile_filter {p : CellNo → Bool} {c d : CellNo} (hd : p d = true) {l : List CellNo}
    (h : c ∈ (l.filter p).takeWhile (· != d)) : c ∈ l.takeWhile (· != d) := by
  induction l with
  | nil => cases h
  | cons x l ih =>
    by_cases hx : x = d
    · simp [hx, hd] at h
    · cases hp : p x with
      | false => simp [hx, ih (by simpa [hp] using h)]
      | true =>
        rw [List.filter_cons_of_pos hp] at h
        simp only [List.takeWhile_cons, bne_iff_ne.2 hx, if_true, List.mem_cons] at h ⊢
        exact h.imp_right ih

/-- A new tail changes nothing ahead of a cell of the list. -/
theorem takeWhile_append_of_mem {d : CellNo} {l : List CellNo} (h : d ∈ l) (l' : List CellNo) :
    (l ++ l').takeWhile (· != d) = l.takeWhile (· != d) := by
  induction l with
  | nil => cases h
  | cons x l ih =>
    by_cases hx : x = d
    · simp [hx]
    · simp [hx, ih ((List.mem_cons.1 h).resolve_left (Ne.symm hx))]

theorem State.mem_order_of_mem_ahead {s : State} {c d : CellNo} (h : c ∈ s.ahead d) : c ∈ s.order :=
  List.takeWhile_subset _ h

/-- Emptying and readying keep the order of what they leave (R96, R97). -/
theorem State.NoneOvertaken.cellsChange {s : State} (hs : s.NoneOvertaken) {v : Vector WaitCell 64} {gone : CellNo → Bool}
    (hgone : ∀ c : CellNo, gone c = true → v[c].state = .empty)
    (hkept : ∀ c : CellNo, gone c = false → CellMove s (s.cell c).state v[c].state) :
    State.NoneOvertaken { s with cells := v, order := s.order.filter fun c => !gone c } := by
  have hstays {d : CellNo} {g : WaitEntry × SlotNo} (hg : v[d].state.grant? = some g) : gone d = false :=
    Bool.eq_false_of_not_eq_true fun hd => CellState.ne_empty_of_grant hg (hgone d hd)
  refine hs.of_earlier (fun d g hg => (hkept d (hstays hg)).grant hg) fun c d o g hg hahead hc => ?_
  exact ⟨mem_takeWhile_of_mem_takeWhile_filter (by simp [hstays hg]) hahead, waiting_of_cells_change hgone hkept hc⟩

/-- A deferral puts its entry behind every other (R81, R95). -/
theorem State.NoneOvertaken.deferred {s : State} (hs : s.NoneOvertaken) (hlist : s.ListSound) {c : CellNo}
    (hc : (s.cell c).state = .empty) (e : WaitEntry) (r : Reason) (w : Option Nat) :
    State.NoneOvertaken { s.setCellState c (.waiting e r w) with order := s.order ++ [c] } := by
  have hcell (d : CellNo) : State.cell { s.setCellState c (.waiting e r w) with order := s.order ++ [c] } d =
      if c = d then ⟨(s.cell c).generation, .waiting e r w⟩ else s.cell d := s.cell_setCellState c d _
  have hgrant (d : CellNo) (g : WaitEntry × SlotNo)
      (hd : (State.cell { s.setCellState c (.waiting e r w) with order := s.order ++ [c] } d).state.grant? = some g) :
      (s.cell d).state.grant? = some g := by
    rw [hcell] at hd
    split at hd
    · cases hd
    · exact hd
  refine hs.of_earlier hgrant fun b d o g hd hahead hb => ?_
  have hmem : d ∈ s.order := (hlist.2 d).2 (CellState.ne_empty_of_grant (hgrant d g hd))
  have hsame : (s.order ++ [c]).takeWhile (· != d) = s.ahead d := takeWhile_append_of_mem hmem [c]
  have hahead' : b ∈ s.ahead d := by
    rw [← hsame]
    exact hahead
  have hcb : c ≠ b := by
    rintro rfl
    exact (hlist.2 c).1 (State.mem_order_of_mem_ahead hahead') hc
  rw [hcell, if_neg hcb] at hb
  exact ⟨hahead', hb⟩

/-- A grant has found no older WAITING entry that conflicts (R99 (b)). -/
theorem State.NoneOvertaken.grantEntry {s : State} (hs : s.NoneOvertaken) {c : CellNo} {e : WaitEntry} (k : SlotNo)
    (hm : s.mayGrant c e = true) : (s.grantEntry c e k).NoneOvertaken := by
  obtain ⟨_, holder, _⟩ := (s.mayGrant_iff c e).1 hm
  rw [State.noneOvertaken_iff] at hs ⊢
  intro b d o g hahead hb hd
  have hb' : (s.cell b).state.waiting? = some o := by
    rw [State.cell_grantEntry] at hb
    split at hb
    · cases hb
    · exact hb
  rw [State.cell_grantEntry] at hd
  split at hd
  · next hcd =>
    cases hd
    exact holder b (hcd ▸ hahead) o hb'
  · exact hs b d o g hahead hb' hd

theorem State.NoneOvertaken.change {s t : State} (h : Change s t) (hlist : s.ListSound) (hs : s.NoneOvertaken) :
    t.NoneOvertaken := by
  cases h with
  | outside h => exact hs.congr h.toSameTables
  | cells v gone hgone hkept => exact hs.cellsChange hgone hkept
  | deferred a w0 q m r c hq hr ht hc => exact hs.deferred hlist hc.1 _ _ _
  | granted c e r w k hc hk hm => exact hs.grantEntry k hm
  | _ => exact hs

theorem State.noneOvertaken_poweredOn (s : State) (g : Bool) (n : BitVec 2) (w : Word) : (s.poweredOn g n w).NoneOvertaken := by
  intro c d o e left k _ hc
  rw [State.cell_poweredOn] at hc
  cases hc

/-- Settles O58, with the soundness of the list, which every step keeps too, for the place a new entry takes. -/
theorem stepKeepsNoneOvertaken : Obligations.StepKeepsNoneOvertaken := by
  intro s t hlist hs h
  refine (step_keeps_tables (P := fun u => u.ListSound ∧ u.NoneOvertaken) (fun _ _ hsame hu => ?_) (fun _ _ hchange hu => ?_)
    (fun u g n w => ?_) h ⟨hlist, hs⟩).2
  · exact ⟨hu.1.congr hsame, hu.2.congr hsame⟩
  · exact ⟨hu.1.change hchange, hu.2.change hchange hu.1⟩
  · exact ⟨u.listSound_poweredOn g n w, u.noneOvertaken_poweredOn g n w⟩

end Sys2Proof.Machine
end

section
/-! SUPPORT. What every step keeps of the counts: each agent stays within its lease limit and its four tickets (R93, R123). -/

namespace Sys2Proof.Machine

/-! ### Counting records -/

/-- How many of `n` records satisfy a test, as the number of their places. -/
theorem countP_toList_eq_card {α : Type} {n : Nat} (v : Vector α n) (p : α → Bool) :
    v.toList.countP p = (Finset.univ.filter fun i : Fin n => p v[i] = true).card := by
  have hlist : v.toList = (List.finRange n).map fun i => v[i] := by
    refine List.ext_getElem (by simp) fun i h1 h2 => ?_
    simp
  rw [hlist, List.countP_map, List.countP_eq_length_filter, ← List.toFinset_card_of_nodup ((List.nodup_finRange n).filter _)]
  congr 1
  ext i
  simp

/-- Where a record passes the test only if the one before it did, no more records pass it. -/
theorem countP_toList_le {α : Type} {n : Nat} {v w : Vector α n} {p : α → Bool}
    (h : ∀ i : Fin n, p w[i] = true → p v[i] = true) : w.toList.countP p ≤ v.toList.countP p := by
  rw [countP_toList_eq_card, countP_toList_eq_card]
  exact Finset.card_le_card (Finset.monotone_filter_right _ fun i _ => h i)

/-- Where this is so but at one place, at most one record more passes it. -/
theorem countP_toList_le_succ {α : Type} {n : Nat} {v w : Vector α n} {p : α → Bool} (i : Fin n)
    (h : ∀ j : Fin n, i ≠ j → p w[j] = true → p v[j] = true) : w.toList.countP p ≤ v.toList.countP p + 1 := by
  rw [countP_toList_eq_card, countP_toList_eq_card]
  refine (Finset.card_le_card fun j hj => ?_).trans (Finset.card_insert_le i _)
  rw [Finset.mem_filter_univ] at hj
  rw [Finset.mem_insert, Finset.mem_filter_univ]
  exact or_iff_not_imp_left.2 fun hij => h j (Ne.symm hij) hj

theorem State.ownedSlots_le {s t : State} {a : AgentNo}
    (h : ∀ k, (t.slot k).state.ownedBy a = true → (s.slot k).state.ownedBy a = true) : t.ownedSlots a ≤ s.ownedSlots a :=
  countP_toList_le h

theorem State.ticketCount_le {s t : State} {a : AgentNo}
    (h : ∀ c, (t.cell c).state.ownedBy a = true → (s.cell c).state.ownedBy a = true) : t.ticketCount a ≤ s.ticketCount a :=
  countP_toList_le h

theorem State.ownedSlots_setSlotState_le (s : State) (k : SlotNo) (x : SlotState) (a : AgentNo) :
    (s.setSlotState k x).ownedSlots a ≤ s.ownedSlots a + 1 := by
  refine countP_toList_le_succ k fun j hkj hj => ?_
  change ((s.setSlotState k x).slot j).state.ownedBy a = true at hj
  rwa [State.slot_setSlotState, if_neg hkj] at hj

theorem State.ticketCount_setCellState_le (s : State) (c : CellNo) (x : CellState) (a : AgentNo) :
    (s.setCellState c x).ticketCount a ≤ s.ticketCount a + 1 := by
  refine countP_toList_le_succ c fun d hcd hd => ?_
  change ((s.setCellState c x).cell d).state.ownedBy a = true at hd
  rwa [State.cell_setCellState, if_neg hcd] at hd

/-- What fills a slot counts for its owner alone. -/
theorem State.ownedSlots_setSlotState_of_other {s : State} {k : SlotNo} {x : SlotState} {a : AgentNo} (hx : x.ownedBy a = false) :
    (s.setSlotState k x).ownedSlots a ≤ s.ownedSlots a := by
  refine State.ownedSlots_le fun j hj => ?_
  rw [State.slot_setSlotState] at hj
  split at hj
  · exact absurd (hx.symm.trans hj) Bool.false_ne_true
  · exact hj

/-- What fills a cell counts for its owner alone, and for no one where the cell was the owner's before. -/
theorem State.ticketCount_setCellState_of_other {s : State} {c : CellNo} {x : CellState} {a : AgentNo}
    (hx : x.ownedBy a = true → (s.cell c).state.ownedBy a = true) : (s.setCellState c x).ticketCount a ≤ s.ticketCount a := by
  refine State.ticketCount_le fun d hd => ?_
  rw [State.cell_setCellState] at hd
  split at hd
  · next hcd => exact hcd ▸ hx hd
  · exact hd

/-! ### Owners across a change -/

theorem CellState.ownedBy_iff (x : CellState) (a : AgentNo) : x.ownedBy a = true ↔ ∃ e, x.entry? = some e ∧ e.agent = a := by
  simp [CellState.ownedBy, Option.any_eq_true]

theorem SlotMove.ownedBy {s : State} {x y : SlotState} (h : SlotMove s x y) {a : AgentNo} (ha : y.ownedBy a = true) :
    x.ownedBy a = true := by
  cases h with
  | freed => cases ha
  | elapsed d => cases x <;> exact ha
  | _ => exact ha

/-- A lease limit is lowered only to what the agent owns or more (R133). -/
theorem AgentMove.within {s : State} {a : AgentNo} {r r' : AgentRecord} (h : AgentMove s a r r')
    (hr : s.ownedSlots a ≤ r.leaseLimit) : s.ownedSlots a ≤ r'.leaseLimit := by
  cases h with
  | charged n => cases n <;> exact hr
  | port c limit hmax howned => exact howned
  | _ => exact hr

theorem State.WithinLimits.of_le {s t : State} (hs : s.WithinLimits)
    (hslots : ∀ a, t.ownedSlots a ≤ s.ownedSlots a := by exact fun _ => Nat.le_refl _)
    (hcells : ∀ a, t.ticketCount a ≤ s.ticketCount a := by exact fun _ => Nat.le_refl _)
    (hagents : t.agents = s.agents := by rfl) : t.WithinLimits := fun a => by
  obtain ⟨howned, htickets⟩ := hs a
  exact ⟨State.agent_congr hagents a ▸ (hslots a).trans howned, (hcells a).trans htickets⟩

theorem State.WithinLimits.congr {s t : State} (h : SameTables s t) (hs : s.WithinLimits) : t.WithinLimits :=
  hs.of_le (fun _ => State.ownedSlots_le fun k hk => State.slot_sameTables h k ▸ hk)
    (fun _ => State.ticketCount_le fun c hc => State.cell_sameTables h c ▸ hc) h.agents

/-- A slot filled for an agent that is below its lease limit (R75, R99 (d)). -/
theorem State.WithinLimits.fillSlot {s : State} (hs : s.WithinLimits) {k : SlotNo} {x : SlotState} {l : AgentLease}
    (hx : x.lease? = some l) (hl : s.ownedSlots l.owner < (s.agent l.owner).leaseLimit) :
    (s.setSlotState k x).WithinLimits := by
  intro a
  obtain ⟨howned, htickets⟩ := hs a
  refine ⟨?_, htickets⟩
  by_cases ha : l.owner = a
  · subst ha
    exact (s.ownedSlots_setSlotState_le k x _).trans hl
  · exact (State.ownedSlots_setSlotState_of_other (by simp [SlotState.ownedBy, hx, ha])).trans howned

/-- A cell filled for an agent with fewer than four tickets (R79). -/
theorem State.WithinLimits.fillCell {s : State} (hs : s.WithinLimits) {c : CellNo} {x : CellState} {e : WaitEntry}
    (hx : x.entry? = some e) (he : s.ticketCount e.agent < 4) : (s.setCellState c x).WithinLimits := by
  intro a
  obtain ⟨howned, htickets⟩ := hs a
  refine ⟨howned, ?_⟩
  by_cases ha : e.agent = a
  · subst ha
    exact (s.ticketCount_setCellState_le c x _).trans he
  · exact (State.ticketCount_setCellState_of_other fun h => absurd h (by simp [CellState.ownedBy, hx, ha])).trans htickets

theorem State.WithinLimits.change {s t : State} (h : Change s t) (hs : s.WithinLimits) : t.WithinLimits := by
  cases h with
  | outside h => exact hs.congr h.toSameTables
  | slots v h => exact hs.of_le fun a => State.ownedSlots_le fun k hk => (h k).ownedBy hk
  | cells v gone hgone hkept =>
    refine hs.of_le (hcells := fun a => State.ticketCount_le fun c hc => ?_)
    rw [CellState.ownedBy_iff] at hc ⊢
    obtain ⟨e, he, ha⟩ := hc
    exact ⟨e, entry_of_cells_change hgone hkept he, ha⟩
  | agents v h => exact fun a => ⟨(h a).within (hs a).1, (hs a).2⟩
  | acquired a w0 q m k hq hk =>
    obtain ⟨_, _, _, _, _, hlimit⟩ := hq
    exact hs.fillSlot rfl hlimit
  | deferred a w0 q m r c hq hr ht hc => exact (hs.fillCell rfl ht).of_le
  | fenced r k hr hw hl hk => exact hs.of_le fun a => State.ownedSlots_setSlotState_of_other rfl
  | granted c e r w k hc hk hm =>
    obtain ⟨_, _, _, hlimit⟩ := (s.mayGrant_iff c e).1 hm
    refine (hs.fillSlot (x := .reserved e.lease c) rfl hlimit).of_le
      (hcells := fun a => State.ticketCount_setCellState_of_other fun ha => ?_)
    rw [State.cell_setSlotState, hc]
    exact ha
  | _ => exact hs.of_le

theorem State.withinLimits_poweredOn (s : State) (g : Bool) (n : BitVec 2) (w : Word) : (s.poweredOn g n w).WithinLimits := by
  intro a
  rw [State.ownedSlots_eq_zero fun k => by rw [State.slot_poweredOn]; rfl,
    State.ticketCount_eq_zero fun c => by rw [State.cell_poweredOn]; rfl]
  exact ⟨Nat.zero_le _, Nat.zero_le _⟩

/-- Settles O53: only a grant and a deferral add to a count, and each has tested it (R75, R79, R99); only SET_AGENT lowers a limit, and
not below what the agent owns (R133). -/
theorem stepKeepsLimits : Obligations.StepKeepsLimits := fun _ _ hs h =>
  step_keeps_tables (fun _ _ => .congr) (fun _ _ => .change) State.withinLimits_poweredOn h hs

end Sys2Proof.Machine
end

section
/-! SUPPORT. What a grant pass leaves: the conditions that failed for an entry at its visit fail for it still at the end (R99, R101). -/

namespace Sys2Proof.Machine

/-- What a walk over the cells `cs` keeps: the slots that were occupied, the cells it does not visit, and everything but slots and cells; it
makes no entry WAITING (R100). -/
structure State.WalkKeeps (cs : List CellNo) (s t : State) : Prop where
  frame : t = { s with slots := t.slots, cells := t.cells }
  slot : ∀ k, (s.slot k).state ≠ .free → t.slot k = s.slot k
  cell : ∀ c, c ∉ cs → t.cell c = s.cell c
  waiting : ∀ c e, (t.cell c).state.waiting? = some e → (s.cell c).state.waiting? = some e

theorem State.WalkKeeps.refl (cs : List CellNo) (s : State) : State.WalkKeeps cs s s :=
  ⟨rfl, fun _ _ => rfl, fun _ _ => rfl, fun _ _ h => h⟩

theorem State.WalkKeeps.cons {c : CellNo} {cs : List CellNo} {s t : State} (h : State.WalkKeeps cs s t) :
    State.WalkKeeps (c :: cs) s t :=
  { h with cell := fun d hd => h.cell d fun hmem => hd (List.mem_cons_of_mem c hmem) }

theorem State.WalkKeeps.withGrant {c : CellNo} {cs : List CellNo} {s t : State} {e : WaitEntry} {k : SlotNo}
    (hk : (s.slot k).state = .free) (h : State.WalkKeeps cs (s.withGrant c e k) t) : State.WalkKeeps (c :: cs) s t where
  frame := h.frame
  slot j hj := by
    have hkj : k ≠ j := by
      rintro rfl
      exact hj hk
    have hslot : (s.withGrant c e k).slot j = s.slot j := (s.slot_grantEntry c e k j).trans (if_neg hkj)
    rw [← hslot]
    exact h.slot j (hslot ▸ hj)
  cell d hd := by
    have hcd : c ≠ d := by
      rintro rfl
      exact hd List.mem_cons_self
    exact (h.cell d fun hmem => hd (List.mem_cons_of_mem c hmem)).trans ((s.cell_grantEntry c d e k).trans (if_neg hcd))
  waiting d o ho := by
    have hd := h.waiting d o ho
    rw [← State.grantEntry_eq_withGrant, State.cell_grantEntry] at hd
    split at hd
    · cases hd
    · exact hd

theorem State.Walks.keeps {cs : List CellNo} {s t : State} (h : State.Walks cs s t) : State.WalkKeeps cs s t := by
  induction h with
  | finished s => exact .refl _ s
  | passedOver _ _ ih => exact ih.cons
  | noSlotLeft _ _ => exact .refl _ _
  | heldBack _ _ _ _ ih => exact ih.cons
  | granted _ hk _ _ ih => exact ih.withGrant hk.1

/-- What held an entry back at its visit holds it back at the end: holders stay, the cells ahead are visited no more, the sweep and the
limits stay, and the counts only rise. -/
theorem State.WalkKeeps.grantConditions {cs : List CellNo} {s t : State} (h : State.WalkKeeps cs s t) {c : CellNo} {e : WaitEntry}
    (hahead : ∀ d ∈ s.ahead c, d ∉ cs) (ht : t.GrantConditions c e) : s.GrantConditions c e := by
  obtain ⟨hholder, holder, hsweep, hlimit⟩ := ht
  have hslot {k : SlotNo} (hk : (s.slot k).state ≠ .free) : t.slot k = s.slot k := h.slot k hk
  have hagents : t.agents = s.agents := by rw [h.frame]
  have horder : t.ahead c = s.ahead c := by rw [h.frame]; rfl
  have hrecord : t.sweep = s.sweep := by rw [h.frame]
  refine ⟨fun k q hq => hholder k q ?_, fun d hd o ho => holder d (horder ▸ hd) o ?_, ?_, ?_⟩
  · rwa [hslot fun hfree => by rw [hfree] at hq; cases hq]
  · rwa [h.cell d (hahead d hd)]
  · rwa [State.SweepMatches, State.SweepObstacle, ← hrecord]
  · rw [← State.agent_congr hagents]
    refine (State.ownedSlots_le fun k hk => ?_).trans_lt hlimit
    rwa [hslot (SlotState.ne_free_of_ownedBy hk)]

/-- What stands before an element of a list without repetitions does not stand after it. -/
theorem not_mem_of_mem_takeWhile {pre cs : List CellNo} {c d : CellNo} (hnodup : (pre ++ c :: cs).Nodup)
    (hd : d ∈ (pre ++ c :: cs).takeWhile (· != c)) : d ∉ cs := by
  obtain ⟨_, _, hdisjoint⟩ := List.nodup_append.1 hnodup
  have hpre : (pre ++ c :: cs).takeWhile (· != c) = pre := by
    rw [List.takeWhile_append_of_pos fun b hb => bne_iff_ne.2 (hdisjoint b hb c List.mem_cons_self)]
    simp
  exact fun hmem => hdisjoint d (hpre ▸ hd) d (List.mem_cons_of_mem c hmem) rfl

/-- At the end of a walk over a part of the list no entry of that part could still be granted. -/
theorem State.Walks.nothingGrantable {cs : List CellNo} {s t : State} (h : State.Walks cs s t) {pre : List CellNo}
    (horder : s.order = pre ++ cs) (hnodup : s.order.Nodup) {c : CellNo} (hc : c ∈ cs) {e : WaitEntry}
    (he : (t.cell c).state.waiting? = some e) : t.TableFull ∨ ¬ t.GrantConditions c e := by
  induction h generalizing pre with
  | finished s => cases hc
  | @passedOver b rest s t hnot hwalk ih =>
    obtain rfl | hc := List.mem_cons.1 hc
    · cases hnot.symm.trans (hwalk.keeps.waiting c e he)
    · exact ih (pre := pre ++ [b]) (by simp [horder]) hnodup hc he
  | noSlotLeft _ hfull => exact .inl hfull
  | @heldBack b rest s t o k hwait hk hheld hwalk ih =>
    obtain rfl | hc := List.mem_cons.1 hc
    · cases hwait.symm.trans (hwalk.keeps.waiting c e he)
      exact .inr (mt (hwalk.keeps.grantConditions fun d hd => not_mem_of_mem_takeWhile (horder ▸ hnodup) (horder ▸ hd)) hheld)
    · exact ih (pre := pre ++ [b]) (by simp [horder]) hnodup hc he
  | @granted b rest s t o k hwait hk hheld hwalk ih =>
    obtain rfl | hc := List.mem_cons.1 hc
    · have hgranted := hwalk.keeps.waiting c e he
      rw [← State.grantEntry_eq_withGrant, State.cell_grantEntry, if_pos rfl] at hgranted
      cases hgranted
    · exact ih (pre := pre ++ [b]) (by simp [← horder]; rfl) hnodup hc he

/-- Settles O35: every WAITING entry stands in the sound list, and the pass has walked the whole of it. -/
theorem grantPassLeavesNothingGrantable : Obligations.GrantPassLeavesNothingGrantable := by
  rintro s t hlist rfl c e x left hc
  have hwait : (s.grantPass.cell c).state.waiting? = some e := by rw [hc]; rfl
  have hwalk : State.Walks s.order s s.grantPass := grantWalk_walks s.order s
  have hmem : c ∈ s.order := (hlist.2 c).2 fun hempty => by
    have hold := hwalk.keeps.waiting c e hwait
    rw [hempty] at hold
    cases hold
  refine (hwalk.nothingGrantable (pre := []) rfl hlist.1 hmem hwait).imp_right fun hnot => ?_
  by_contra hall
  obtain ⟨hholder, hrest⟩ := not_or.1 hall
  obtain ⟨holder, hrest⟩ := not_or.1 hrest
  obtain ⟨hsweep, hlimit⟩ := not_or.1 hrest
  exact hnot ⟨not_not.1 hholder, fun d hd o ho => Bool.eq_false_of_not_eq_true fun h => holder ⟨d, hd, o, ho, h⟩, hsweep,
    Nat.lt_of_not_le hlimit⟩

end Sys2Proof.Machine
end

section
/-! SUPPORT. WITHDRAW (R103, R107). -/

namespace Sys2Proof.Machine

theorem State.serveWithdraw_of_stale {s : State} (a : AgentNo) {t : Ticket} (hs : s.TicketStale t) :
    s.serveWithdraw a t = (s, .named .stale t.bits) := by
  simp [State.serveWithdraw, State.ticketCurrent_of_stale hs]

theorem State.serveWithdraw_of_other {s : State} {a : AgentNo} {t : Ticket} (ho : s.TicketOfOther a t) :
    s.serveWithdraw a t = (s, .named .notOwner t.bits) := by
  obtain ⟨hcurrent, hown⟩ := State.of_ticketOfOther ho
  simp [State.serveWithdraw, hcurrent, hown]

theorem State.serveWithdraw_of_waiting {s : State} {t : Ticket} {e : WaitEntry} {r : Reason} {w : Option Nat}
    (hcell : s.cell t.cell = ⟨t.generation, .waiting e r w⟩) :
    s.serveWithdraw e.agent t = ((s.emptyCell t.cell).grantPass, .named .withdrawn t.bits) := by
  simp [State.serveWithdraw, State.ticketCurrent_of_cell hcell nofun, hcell, CellState.ownedBy, CellState.entry?]

theorem State.serveWithdraw_of_granted {s : State} {t : Ticket} {e : WaitEntry} {left : Nat} {k : SlotNo}
    (hcell : s.cell t.cell = ⟨t.generation, .granted e left k⟩) :
    s.serveWithdraw e.agent t = (((s.freeReserved k).emptyCell t.cell).grantPass, .named .withdrawn t.bits) := by
  simp [State.serveWithdraw, State.ticketCurrent_of_cell hcell nofun, hcell, CellState.ownedBy, CellState.entry?]

theorem State.serveWithdraw_of_ended {s : State} {t : Ticket} {e : WaitEntry} {o : Ending} {left : Nat}
    (hcell : s.cell t.cell = ⟨t.generation, .ended e o left⟩) :
    s.serveWithdraw e.agent t = (s.emptyCell t.cell, .named .withdrawn t.bits) := by
  simp [State.serveWithdraw, State.ticketCurrent_of_cell hcell nofun, hcell, CellState.ownedBy, CellState.entry?]

theorem exec_withdraw {s : State} {a : AgentNo} {w0 : Word} (hreq : s.Requesting a w0 (some .withdraw)) (w1 w2 w3 : Word) :
    exec (.withdraw w1 w2 w3) s =
      .next ((s.serveWithdraw a (ticketOf w1)).1.withAnswer a (s.serveWithdraw a (ticketOf w1)).2) :=
  congrArg Host.Outcome.next (State.takeRequest_of_requesting hreq _)

/-- Settles O20, by the ticket and then by the state of its entry. -/
theorem withdrawEmptiesTheCell : Obligations.WithdrawEmptiesTheCell := by
  rintro s a w0 w1 w2 w3 t u rfl hreq rfl
  rw [exec_withdraw hreq]
  refine ⟨fun hs => ?_, fun ho => ?_, ?_⟩
  · rw [State.serveWithdraw_of_stale a hs]
    rfl
  · rw [State.serveWithdraw_of_other ho]
    rfl
  · rintro e rfl
    refine ⟨fun r left hcell => ?_, fun left k l hcell hslot => ?_, fun o left hcell => ?_⟩
    · rw [State.serveWithdraw_of_waiting hcell, State.emptyCell_of_cell hcell nofun]
      rfl
    · have hfree : s.freeReserved k = { s with slots := s.slots.set k ⟨(s.slot k).generation + 1, .free⟩ } := by
        rw [State.freeReserved_of_reserved hslot, State.freeSlot_of_ne_free (by rw [hslot]; nofun)]
      have hfreed : (s.freeReserved k).cell (ticketOf w1).cell = ⟨(ticketOf w1).generation, .granted e left k⟩ := by
        rw [hfree]
        exact hcell
      rw [State.serveWithdraw_of_granted hcell, State.emptyCell_of_cell hfreed nofun, hfree]
      rfl
    · rw [State.serveWithdraw_of_ended hcell, State.emptyCell_of_cell hcell nofun]
      rfl

end Sys2Proof.Machine
end

section
/-! SUPPORT. Standing and what a change of it does (R111, R124, R128 to R130). -/

namespace Sys2Proof.Machine

/-! ### Standing (R124, R128) -/

/-- A score of the record that belongs to this class trips (R124). -/
def AgentRecord.TripsIn (r : AgentRecord) (c : ScoreClass) : Prop :=
  ∃ x ∈ [r.overstay, r.abandon, r.trespass], x.settings.scoreClass = c ∧ x.value ≤ x.settings.threshold

theorem AgentRecord.any_trips_iff (r : AgentRecord) (c : ScoreClass) :
    (r.scores.any fun x => x.settings.scoreClass == c && x.trips) = true ↔ r.TripsIn c := by
  simp only [List.any_eq_true, Bool.and_eq_true, beq_iff_eq, Score.trips, decide_eq_true_eq]
  rfl

theorem AgentRecord.standing_eq_barred_iff (r : AgentRecord) : r.standing = .barred ↔ r.TripsIn .barring := by
  rw [← AgentRecord.any_trips_iff, AgentRecord.standing]
  split_ifs <;> simp_all

theorem AgentRecord.standing_eq_advised_iff (r : AgentRecord) :
    r.standing = .advised ↔ r.standing ≠ .barred ∧ r.TripsIn .advisory := by
  rw [ne_eq, AgentRecord.standing_eq_barred_iff, ← AgentRecord.any_trips_iff, ← AgentRecord.any_trips_iff, AgentRecord.standing]
  split_ifs <;> simp_all

/-! ### Changes of standing (R111, R129, R130): what writing a record does, by the standing it gives and the one before -/

theorem State.standing_setAgent (s : State) (a b : AgentNo) (r : AgentRecord) :
    (s.setAgent a r).standing b = if a = b then r.standing else s.standing b := by
  rw [State.standing, State.agent_setAgent]
  split <;> rfl

theorem State.updateConduct_of_same {s : State} {a : AgentNo} {r : AgentRecord} (h : r.standing = s.standing a) :
    s.updateConduct a r = s.setAgent a r := by
  rw [State.updateConduct, State.standingChanged, State.standing_setAgent, if_pos rfl, if_pos h]

theorem State.updateConduct_of_good {s : State} {a : AgentNo} {r : AgentRecord} (h : r.standing = .good) :
    s.updateConduct a r = s.setAgent a r := by
  rw [State.updateConduct, State.standingChanged, State.standing_setAgent, if_pos rfl, h]
  exact ite_self _

theorem State.updateConduct_of_advised {s : State} {a : AgentNo} {r : AgentRecord} (h : r.standing ≠ s.standing a)
    (hr : r.standing = .advised) : s.updateConduct a r = (s.setAgent a r).raise .agentAdvised a.val := by
  rw [State.updateConduct, State.standingChanged, State.standing_setAgent, if_pos rfl, if_neg h, hr]

theorem State.updateConduct_of_barred {s : State} {a : AgentNo} {r : AgentRecord} (h : r.standing ≠ s.standing a)
    (hr : r.standing = .barred) :
    s.updateConduct a r = ((s.setAgent a r).raise .agentBarred a.val).readyWhere (fun e => e.agent == a) .barred := by
  rw [State.updateConduct, State.standingChanged, State.standing_setAgent, if_pos rfl, if_neg h, hr]

theorem WaitCell.readied_of_waiting {x : WaitCell} {e : WaitEntry} {r : Reason} {w : Option Nat} (hx : x.state = .waiting e r w)
    {p : WaitEntry → Bool} (hp : p e = true) (o : Ending) (n : Nat) : x.readied p o n = ⟨x.generation, .ended e o n⟩ := by
  simp [WaitCell.readied, hx, hp]

theorem WaitCell.readied_of_not {x : WaitCell} {p : WaitEntry → Bool} (h : ∀ e ∈ x.state.waiting?, p e = false) (o : Ending)
    (n : Nat) : x.readied p o n = x := by
  obtain hx | ⟨e, r, w, hx, hp, _⟩ := x.readied_eq p o n
  · exact hx
  · rw [h e (by rw [hx]; rfl)] at hp
    cases hp

/-- Settles O26, by the standing the new record gives; on entering BARRED each cell takes the readying step or stays. -/
theorem standingAndItsChanges : Obligations.StandingAndItsChanges := by
  refine ⟨fun r => ⟨r.standing_eq_barred_iff, r.standing_eq_advised_iff⟩, fun _ _ => rfl, ?_⟩
  rintro s a r u rfl
  refine ⟨fun h => h.elim State.updateConduct_of_same State.updateConduct_of_good, State.updateConduct_of_advised,
    fun hne hr => ⟨_, State.updateConduct_of_barred hne hr, rfl, fun c e x left hc he => ?_, fun c hc => ?_⟩⟩
  · rw [State.cell_readyWhere]
    exact WaitCell.readied_of_waiting (p := fun e => e.agent == a) hc (beq_iff_eq.2 he) _ _
  · rw [State.cell_readyWhere]
    exact WaitCell.readied_of_not (fun e he => beq_false_of_ne (hc e he)) _ _

end Sys2Proof.Machine
end

section
/-! SUPPORT. No step leaves a BARRED agent with a WAITING entry: the shared operations, and the walk over the rows of
spec/opcode_table.json (R111). -/

namespace Sys2Proof.Machine

/-! ### Changes that make no entry WAITING -/

/-- Where no entry has begun to wait and no record has changed, no BARRED agent waits. -/
theorem State.BarredDoNotWait.of_fewer {s t : State} (hs : s.BarredDoNotWait)
    (hwait : ∀ c e, (t.cell c).state.waiting? = some e → (s.cell c).state.waiting? = some e := by exact fun _ _ h => h)
    (hagents : t.agents = s.agents := by rfl) : t.BarredDoNotWait := fun c e he => by
  rw [State.standing, State.agent_congr hagents]
  exact hs c e (hwait c e he)

/-- A change outside the cells and the records. -/
theorem State.BarredDoNotWait.of_tables {s t : State} (hs : s.BarredDoNotWait) (hcells : t.cells = s.cells := by rfl)
    (hagents : t.agents = s.agents := by rfl) : t.BarredDoNotWait :=
  hs.of_fewer (fun c _ h => State.cell_congr hcells c ▸ h) hagents

theorem State.BarredDoNotWait.congr {s t : State} (hs : s.BarredDoNotWait) (h : SameTables s t) : t.BarredDoNotWait :=
  hs.of_tables h.cells h.agents

/-- Where no entry waits at all, no BARRED agent waits. -/
theorem State.barredDoNotWait_of_empty {s : State} (h : ∀ c, (s.cell c).state = .empty) : s.BarredDoNotWait := fun c e he => by
  rw [h c] at he
  cases he

/-! ### The shared operations -/

theorem State.BarredDoNotWait.raise {s : State} (hs : s.BarredDoNotWait) (x : Source) (d : Nat) : (s.raise x d).BarredDoNotWait :=
  hs.of_tables

theorem State.BarredDoNotWait.freeSlot {s : State} (hs : s.BarredDoNotWait) (k : SlotNo) : (s.freeSlot k).BarredDoNotWait :=
  hs.of_tables

theorem State.BarredDoNotWait.freeReserved {s : State} (hs : s.BarredDoNotWait) (k : SlotNo) :
    (s.freeReserved k).BarredDoNotWait := by
  unfold State.freeReserved
  split
  · exact hs.freeSlot k
  · exact hs

theorem State.BarredDoNotWait.collectSlot {s : State} (hs : s.BarredDoNotWait) (k : SlotNo) :
    (s.collectSlot k).BarredDoNotWait := by
  unfold State.collectSlot
  split
  · exact hs.of_tables
  · exact hs

theorem State.BarredDoNotWait.setCell {s : State} (hs : s.BarredDoNotWait) {c : CellNo} {x : WaitCell}
    (h : CellMove s (s.cell c).state x.state) : (s.setCell c x).BarredDoNotWait := by
  refine hs.of_fewer fun d e he => ?_
  rw [State.cell_setCell] at he
  split at he
  · next hcd => exact hcd ▸ h.waiting he
  · exact he

theorem State.BarredDoNotWait.readyCell {s : State} (hs : s.BarredDoNotWait) (c : CellNo) (o : Ending) :
    (s.readyCell c o).BarredDoNotWait := hs.setCell (.of_readied s _ _ o)

theorem State.BarredDoNotWait.cancelGrant {s : State} (hs : s.BarredDoNotWait) (c : CellNo) :
    (s.cancelGrant c).BarredDoNotWait := by
  unfold State.cancelGrant
  split
  · next e left k h => exact hs.setCell (h ▸ .grantCancelled e left k)
  · exact hs

theorem State.BarredDoNotWait.emptyCell {s : State} (hs : s.BarredDoNotWait) (c : CellNo) : (s.emptyCell c).BarredDoNotWait := by
  refine hs.of_fewer fun d e he => ?_
  rw [State.cell_emptyCell] at he
  split at he
  · rw [WaitCell.state_emptied] at he
    cases he
  · exact he

theorem State.BarredDoNotWait.readyWhere {s : State} (hs : s.BarredDoNotWait) (p : WaitEntry → Bool) (o : Ending) :
    (s.readyWhere p o).BarredDoNotWait := by
  refine hs.of_fewer fun c e he => ?_
  rw [State.cell_readyWhere] at he
  exact (CellMove.of_readied s _ p o).waiting he

theorem State.BarredDoNotWait.grantPass {s : State} (hs : s.BarredDoNotWait) : s.grantPass.BarredDoNotWait := by
  refine s.grantPass_induct State.BarredDoNotWait (fun t c e _ _ k ht _ _ _ => ht.of_fewer fun d o ho => ?_) hs
  rw [State.cell_grantEntry] at ho
  split at ho
  · cases ho
  · exact ho

theorem State.BarredDoNotWait.passIfReadied {s : State} (hs : s.BarredDoNotWait) (before : State) :
    (before.passIfReadied s).BarredDoNotWait := by
  unfold State.passIfReadied
  split
  · exact hs.grantPass
  · exact hs

theorem State.BarredDoNotWait.unlessReset {s : State} (hs : s.BarredDoNotWait) {f : State → State}
    (h : (f s).BarredDoNotWait) : (s.unlessReset f).BarredDoNotWait := by
  unfold State.unlessReset
  split
  · exact hs
  · exact h

/-! ### Changes of standing (R130) -/

/-- Who still waits after a derivation of the agent's standing waited before it, and the agent has not entered BARRED (R130). -/
theorem State.waiting_standingChanged {s : State} {a : AgentNo} {old : Standing} {c : CellNo} {e : WaitEntry}
    (he : ((s.standingChanged a old).cell c).state.waiting? = some e) :
    (s.cell c).state.waiting? = some e ∧ (e.agent = a → s.standing a = .barred → old = .barred) := by
  unfold State.standingChanged at he
  split at he
  · next hsame => exact ⟨he, fun _ hbarred => hsame ▸ hbarred⟩
  · split at he
    · rw [State.cell_readyWhere, WaitCell.waiting_readied, Option.filter_eq_some_iff] at he
      obtain ⟨hwait, hother⟩ := he
      exact ⟨hwait, fun ha => by simp [ha] at hother⟩
    · next hadvised => exact ⟨he, fun _ hbarred => nomatch hadvised.symm.trans hbarred⟩
    · next hgood => exact ⟨he, fun _ hbarred => nomatch hgood.symm.trans hbarred⟩

/-- A charge, a credit or a change of settings readies the entries of the agent it bars (R111). -/
theorem State.BarredDoNotWait.updateConduct {s : State} (hs : s.BarredDoNotWait) (a : AgentNo) (r : AgentRecord) :
    (s.updateConduct a r).BarredDoNotWait := by
  intro c e he hbarred
  obtain ⟨hwait, hentered⟩ := State.waiting_standingChanged he
  rw [State.updateConduct, State.standing_standingChanged] at hbarred
  by_cases ha : e.agent = a
  · exact hs c e hwait (ha ▸ hentered ha (ha ▸ hbarred))
  · rw [State.standing_setAgent, if_neg (Ne.symm ha)] at hbarred
    exact hs c e hwait hbarred

theorem State.BarredDoNotWait.charge {s : State} (hs : s.BarredDoNotWait) (a : AgentNo) (n : ScoreName) :
    (s.charge a n).BarredDoNotWait := hs.updateConduct a _

theorem State.BarredDoNotWait.credit {s : State} (hs : s.BarredDoNotWait) (a : AgentNo) : (s.credit a).BarredDoNotWait :=
  hs.updateConduct a _

/-- The standings of the agents `as` derived afresh, against those in `before` (R179). -/
def State.deriveFor (s before : State) (as : List AgentNo) : State :=
  as.foldl (fun x a => x.standingChanged a (before.standing a)) s

theorem State.deriveAll_eq (s before : State) : s.deriveAll before = s.deriveFor before (List.finRange 32) := rfl

theorem State.deriveFor_cons (s before : State) (a : AgentNo) (as : List AgentNo) :
    s.deriveFor before (a :: as) = (s.standingChanged a (before.standing a)).deriveFor before as := rfl

theorem State.standing_deriveFor (s before : State) (as : List AgentNo) (b : AgentNo) :
    (s.deriveFor before as).standing b = s.standing b := by
  induction as generalizing s with
  | nil => rfl
  | cons a as ih => rw [State.deriveFor_cons, ih, State.standing_standingChanged]

/-- Who still waits after some standings are derived afresh waited before, and is none of those that have entered BARRED (R130). -/
theorem State.waiting_deriveFor {s before : State} {as : List AgentNo} {c : CellNo} {e : WaitEntry}
    (he : ((s.deriveFor before as).cell c).state.waiting? = some e) :
    (s.cell c).state.waiting? = some e ∧
      (e.agent ∈ as → s.standing e.agent = .barred → before.standing e.agent = .barred) := by
  induction as generalizing s with
  | nil => exact ⟨he, nofun⟩
  | cons a as ih =>
    rw [State.deriveFor_cons] at he
    obtain ⟨hwait, hlater⟩ := ih he
    obtain ⟨hwait, hnow⟩ := State.waiting_standingChanged hwait
    rw [State.standing_standingChanged] at hlater
    refine ⟨hwait, fun hmem => ?_⟩
    obtain ha | hmem := List.mem_cons.1 hmem
    · exact ha ▸ hnow ha
    · exact hlater hmem

/-- A profile readies the entries of every agent it bars (R179). -/
theorem State.BarredDoNotWait.applyProfile {s : State} (hs : s.BarredDoNotWait) (p : Profile) :
    (s.applyProfile p).BarredDoNotWait := by
  refine State.BarredDoNotWait.passIfReadied (fun c e he hbarred => ?_) s
  rw [State.deriveAll_eq] at he hbarred
  obtain ⟨hwait, hentered⟩ := State.waiting_deriveFor he
  rw [State.standing_deriveFor] at hbarred
  exact hs c e hwait (hentered (List.mem_finRange _) hbarred)

/-! ### What an outcome comes to -/

/-- The outcome is a next state in which no BARRED agent waits. -/
def BarredDoNotWaitIn (o : Host.Outcome State Fault Refusal) : Prop := ∃ t, o = .next t ∧ t.BarredDoNotWait

theorem State.BarredDoNotWait.next {s : State} (hs : s.BarredDoNotWait) : BarredDoNotWaitIn (.next s) := ⟨s, rfl, hs⟩

theorem State.BarredDoNotWait.nextUnlessReset {s : State} (hs : s.BarredDoNotWait) {f : State → State}
    (h : (f s).BarredDoNotWait) : BarredDoNotWaitIn (.next (s.unlessReset f)) := (hs.unlessReset h).next

/-! ### Requests (R71 to R108) -/

theorem State.BarredDoNotWait.takeRequest {s : State} (hs : s.BarredDoNotWait) {kind : Option RequestKind}
    {serve : AgentNo → Word → State × Answer} (h : ∀ a w0, s.Requesting a w0 kind → (serve a w0).1.BarredDoNotWait) :
    BarredDoNotWaitIn (.next (s.takeRequest kind serve)) := by
  by_cases hq : ∃ a w0, s.Requesting a w0 kind
  · obtain ⟨a, w0, hq⟩ := hq
    rw [State.takeRequest_of_requesting hq]
    exact ((h a w0 hq).of_tables).next
  · rw [State.takeRequest_of_not fun a w0 hr => hq ⟨a, w0, hr⟩]
    exact hs.of_tables.next

/-- A deferral makes an agent wait that is not BARRED (R72, R81). -/
theorem State.BarredDoNotWait.defer {s : State} (hs : s.BarredDoNotWait) {e : WaitEntry} (he : s.standing e.agent ≠ .barred)
    (r : Reason) (w : Option Nat) (c : CellNo) : (s.defer e r w c).1.BarredDoNotWait := by
  have hset : (s.setCellState c (.waiting e r w)).BarredDoNotWait := by
    intro d o ho
    rw [State.cell_setCellState] at ho
    split at ho
    · cases ho
      exact he
    · exact hs d o ho
  cases r <;> exact hset.of_tables

theorem State.BarredDoNotWait.acquireOrWait {s : State} (hs : s.BarredDoNotWait) {e : WaitEntry}
    (he : s.standing e.agent ≠ .barred) (limit : BitVec 16) : (s.acquireOrWait e limit).1.BarredDoNotWait := by
  unfold State.acquireOrWait
  split
  · exact hs.of_tables
  · next r _ =>
    unfold State.blockedAcquire
    split_ifs
    · cases r <;> exact hs.of_tables
    · exact hs
    · split
      · exact hs.of_tables
      · exact hs.defer he r _ _

theorem State.BarredDoNotWait.serveAcquire {s : State} (hs : s.BarredDoNotWait) {a : AgentNo} {w0 : Word}
    (hr : s.Requesting a w0 (some .acquire)) (q : AcquireFields) : (s.serveAcquire a q).1.BarredDoNotWait := by
  obtain h | ⟨m, hgoes, h⟩ := s.serveAcquire_refused_or_goesOn a q
  · rwa [h]
  · obtain ⟨_, _, hbarred, _⟩ := hgoes w0 hr
    rw [h]
    exact hs.acquireOrWait (e := q.entry a m) hbarred _

theorem State.BarredDoNotWait.serveRenew {s : State} (hs : s.BarredDoNotWait) (a : AgentNo) (h : Handle) (n : BitVec 16) :
    (s.serveRenew a h n).1.BarredDoNotWait := by
  unfold State.serveRenew
  split_ifs
  · exact hs
  · exact hs
  · cases (s.slot h.slot).state with
    | held l r =>
      dsimp only
      unfold State.renewHeld
      split
      · exact hs
      · exact hs.of_tables
    | _ => exact hs

theorem State.BarredDoNotWait.serveRelease {s : State} (hs : s.BarredDoNotWait) (a : AgentNo) (h : Handle) :
    (s.serveRelease a h).1.BarredDoNotWait := by
  have hfree := hs.freeSlot h.slot
  unfold State.serveRelease
  split_ifs
  · exact hs
  · exact hs
  · cases (s.slot h.slot).state with
    | held l r => exact (hfree.credit a).grantPass
    | lapsed l r => exact hfree.grantPass
    | revoked l r => exact hfree.grantPass
    | _ => exact hs

theorem State.BarredDoNotWait.servePoll {s : State} (hs : s.BarredDoNotWait) (a : AgentNo) (t : Ticket) :
    (s.servePoll a t).1.BarredDoNotWait := by
  unfold State.servePoll
  split_ifs
  · exact hs
  · exact hs
  · cases (s.cell t.cell).state with
    | granted e left k => exact (hs.collectSlot k).emptyCell _
    | ended e o left => exact hs.emptyCell _
    | _ => exact hs

theorem State.BarredDoNotWait.serveWithdraw {s : State} (hs : s.BarredDoNotWait) (a : AgentNo) (t : Ticket) :
    (s.serveWithdraw a t).1.BarredDoNotWait := by
  unfold State.serveWithdraw
  split_ifs
  · exact hs
  · exact hs
  · cases (s.cell t.cell).state with
    | waiting e r w => exact (hs.emptyCell _).grantPass
    | granted e left k => exact ((hs.freeReserved k).emptyCell _).grantPass
    | ended e o left => exact hs.emptyCell _
    | empty => exact hs

/-! ### The bus, attach and detach (R58 to R67, R120, R121) -/

theorem State.BarredDoNotWait.execFirstRequestWord {s : State} (hs : s.BarredDoNotWait) (w0 : Word) :
    BarredDoNotWaitIn (execFirstRequestWord w0 s) := by
  unfold Machine.execFirstRequestWord
  split <;> exact hs.of_tables.next

theorem State.BarredDoNotWait.choose {s : State} (hs : s.BarredDoNotWait) : s.choose.BarredDoNotWait := by
  unfold State.choose
  split
  · exact hs
  · split
    · unfold State.grantBus
      split <;> exact hs.of_tables
    · exact hs

theorem State.BarredDoNotWait.execTenureEnd {s : State} (hs : s.BarredDoNotWait) : BarredDoNotWaitIn (execTenureEnd s) := by
  unfold Machine.execTenureEnd
  split <;> exact hs.of_tables.next

theorem State.BarredDoNotWait.execTenureLimitExpiry {s : State} (hs : s.BarredDoNotWait) :
    BarredDoNotWaitIn (execTenureLimitExpiry s) := by
  unfold Machine.execTenureLimitExpiry
  split <;> exact hs.of_tables.next

theorem State.BarredDoNotWait.detachedBeforePass {s : State} (hs : s.BarredDoNotWait) (a : AgentNo) :
    (s.detachedBeforePass a).BarredDoNotWait := by
  refine hs.of_fewer (fun c e he => ?_) (by rw [State.detachedBeforePass_frame])
  rw [State.cell_detachedBeforePass] at he
  split at he
  · cases he
  · exact he

theorem State.BarredDoNotWait.execDetach {s : State} (hs : s.BarredDoNotWait) (a : AgentNo) :
    BarredDoNotWaitIn (execDetach a s) := by
  have hline : (s.lineLowered a).BarredDoNotWait := hs.of_tables
  refine State.BarredDoNotWait.next ?_
  split
  · exact hline.unlessReset (hline.detachedBeforePass a).grantPass
  · exact hline

/-! ### Expiries and time (R18, R40 to R46, R109, R110) -/

theorem State.BarredDoNotWait.termRunsOut {s : State} (hs : s.BarredDoNotWait) (k : SlotNo) (l : AgentLease) :
    (s.termRunsOut k l).BarredDoNotWait := by
  have hslot : (s.setSlotState k (.lapsed l s.holdAmount)).BarredDoNotWait := hs.of_tables
  have hlapse : (s.lapse k l).BarredDoNotWait := by
    unfold State.lapse State.chargeLapse
    split
    · exact (hslot.charge _ _).raise _ _
    · exact hslot.raise _ _
  unfold State.termRunsOut
  split
  · exact hs.of_tables
  · exact hlapse.passIfReadied s

theorem State.BarredDoNotWait.execTermExpiry {s : State} (hs : s.BarredDoNotWait) (k : SlotNo) :
    BarredDoNotWaitIn (execTermExpiry k s) := by
  refine State.BarredDoNotWait.next ?_
  split
  · split
    · exact hs
    · exact hs.termRunsOut k _
  · exact hs

theorem State.BarredDoNotWait.execHoldExpiry {s : State} (hs : s.BarredDoNotWait) (k : SlotNo) :
    BarredDoNotWaitIn (execHoldExpiry k s) := by
  have hfreed : (if s.frozen then s else (s.freeSlot k).grantPass).BarredDoNotWait := by
    split
    · exact hs
    · exact (hs.freeSlot k).grantPass
  refine State.BarredDoNotWait.next ?_
  split
  · exact hfreed
  · exact hfreed
  · exact hs

theorem State.BarredDoNotWait.execWaitLimitExpiry {s : State} (hs : s.BarredDoNotWait) (c : CellNo) :
    BarredDoNotWaitIn (execWaitLimitExpiry c s) := by
  refine State.BarredDoNotWait.next ?_
  split
  · split
    · exact hs
    · exact (hs.readyCell c _).grantPass
  · exact hs

theorem State.BarredDoNotWait.abandonGrant {s : State} (hs : s.BarredDoNotWait) (c : CellNo) (a : AgentNo) (k : SlotNo) :
    (s.abandonGrant c a k).BarredDoNotWait :=
  ((((hs.freeReserved k).emptyCell c).charge a .abandon).raise .ticketAbandoned a.val).grantPass

theorem State.BarredDoNotWait.execCollectionExpiry {s : State} (hs : s.BarredDoNotWait) (c : CellNo) :
    BarredDoNotWaitIn (execCollectionExpiry c s) := by
  refine State.BarredDoNotWait.next ?_
  split
  · split
    · exact hs
    · exact hs.abandonGrant c _ _
  · split
    · exact hs
    · exact hs.emptyCell c
  · exact hs

theorem State.BarredDoNotWait.elapseTimers {s : State} (hs : s.BarredDoNotWait) (d : Nat) :
    (s.elapseTimers d).BarredDoNotWait := by
  refine hs.of_fewer fun c e he => ?_
  simp only [State.cell, State.elapseTimers, Fin.getElem_fin, Vector.getElem_map] at he
  exact (CellMove.elapsed (s := s) d _).waiting he

theorem State.BarredDoNotWait.passMicrosecond {s : State} (hs : s.BarredDoNotWait) : s.passMicrosecond.BarredDoNotWait := by
  have htimers : (if s.frozen then s else s.elapseTimers (unitStep s.unitCode)).BarredDoNotWait := by
    split
    · exact hs
    · exact hs.elapseTimers _
  rw [State.passMicrosecond, State.elapseTenure_frame]
  exact htimers.of_tables

/-! ### The check port (R126, R137) -/

theorem State.BarredDoNotWait.execTrespassCharge {s : State} (hs : s.BarredDoNotWait) :
    BarredDoNotWaitIn (execTrespassCharge s) := by
  refine State.BarredDoNotWait.next ?_
  split
  · exact hs
  · next a rest _ =>
    have hqueue : State.BarredDoNotWait { s with charges := rest } := hs.of_tables
    exact ((hqueue.charge a .trespass).passIfReadied s).congr (State.takePresented_sameTables _)

/-! ### Host commands (R20 to R21, R133 to R136, R151 to R158, R163 to R182) -/

theorem State.BarredDoNotWait.finish {s : State} (hs : s.BarredDoNotWait) (r : ResultCode) (v w : Word) :
    (s.finish r v w).BarredDoNotWait := hs.of_tables

theorem State.BarredDoNotWait.conclude {s : State} (hs : s.BarredDoNotWait) (r : ResultCode) :
    (s.conclude r).BarredDoNotWait := hs.of_tables

theorem State.BarredDoNotWait.setAgentCommand {s : State} (hs : s.BarredDoNotWait) : s.setAgentCommand.BarredDoNotWait := by
  have happly (a : AgentNo) : (s.applySetAgent a).BarredDoNotWait := by
    unfold State.applySetAgent
    dsimp only
    split
    · exact (hs.updateConduct a _).grantPass
    · exact (hs.updateConduct a _).passIfReadied s
  unfold State.setAgentCommand
  split
  · exact hs.conclude _
  · split
    · exact hs.conclude _
    · exact (happly _).finish _ _ _

theorem State.BarredDoNotWait.clearAgentCommand {s : State} (hs : s.BarredDoNotWait) : s.clearAgentCommand.BarredDoNotWait := by
  unfold State.clearAgentCommand
  split
  · exact hs.conclude _
  · exact (hs.updateConduct _ _).finish _ _ _

theorem State.BarredDoNotWait.startSweep {s : State} (hs : s.BarredDoNotWait) : s.startSweep.BarredDoNotWait := by
  unfold State.startSweep
  split
  · exact hs.conclude _
  · split
    · exact hs.conclude _
    · next k _ =>
      have hbegun : State.BarredDoNotWait { s with sweep := ⟨.inProgress, some k, 0, 0, 9⟩ } := hs.of_tables
      exact ((hbegun.readyWhere k.cancels .cancelled).passIfReadied s).finish _ _ _

theorem State.BarredDoNotWait.endSweep {s : State} (hs : s.BarredDoNotWait) (st : SweepStatus) :
    (s.endSweep st).BarredDoNotWait := hs.of_tables

theorem State.BarredDoNotWait.abortSweep {s : State} (hs : s.BarredDoNotWait) : s.abortSweep.BarredDoNotWait := by
  unfold State.abortSweep
  split
  · exact (hs.endSweep _).grantPass.conclude _
  · exact hs.conclude _

theorem State.BarredDoNotWait.loadProfile {s : State} (hs : s.BarredDoNotWait) : s.loadProfile.BarredDoNotWait := by
  unfold State.loadProfile
  split
  · exact hs.conclude _
  · exact (hs.applyProfile _).finish _ _ _

theorem State.BarredDoNotWait.readRecord {s : State} (hs : s.BarredDoNotWait) (image : Option (Vector Word 12)) :
    (s.readRecord image).BarredDoNotWait := by
  unfold State.readRecord
  split
  · exact hs.conclude _
  · split <;> exact hs.of_tables

theorem State.BarredDoNotWait.dropSnapshot {s : State} (hs : s.BarredDoNotWait) : s.dropSnapshot.BarredDoNotWait := by
  unfold State.dropSnapshot
  split <;> exact hs.of_tables

theorem State.BarredDoNotWait.setFence {s : State} (hs : s.BarredDoNotWait) (r : GranuleRange) :
    (s.setFence r).BarredDoNotWait := by
  unfold State.setFence
  split_ifs
  · exact hs.conclude _
  · exact hs.conclude _
  · split <;> exact hs.of_tables

theorem State.BarredDoNotWait.clearFence {s : State} (hs : s.BarredDoNotWait) (h : Handle) :
    (s.clearFence h).BarredDoNotWait := by
  have hfree := hs.freeSlot h.slot
  unfold State.clearFence
  split
  · split
    · exact hfree.grantPass.conclude _
    · exact hs.conclude _
  · exact hs.conclude _

theorem State.BarredDoNotWait.revokeLease {s : State} (hs : s.BarredDoNotWait) (k : SlotNo) (l : AgentLease) :
    (s.revokeLease k l).BarredDoNotWait := hs.of_tables

/-- A RESERVED lease withdrawn, its entry CANCELLED (R112). -/
theorem State.BarredDoNotWait.withdrawGrant {s : State} (hs : s.BarredDoNotWait) (k : SlotNo) (c : CellNo) :
    ((s.freeSlot k).cancelGrant c).BarredDoNotWait := (hs.freeSlot k).cancelGrant c

theorem State.BarredDoNotWait.revokePair {s : State} (hs : s.BarredDoNotWait) (h : Handle) :
    (s.revokePair h).BarredDoNotWait := by
  unfold State.revokePair
  split
  · cases (s.slot h.slot).state with
    | held l r => exact (hs.revokeLease _ l).grantPass.finish _ _ _
    | lapsed l r => exact (hs.revokeLease _ l).grantPass.finish _ _ _
    | reserved l c => exact (hs.withdrawGrant _ c).grantPass.finish _ _ _
    | _ => exact hs.conclude _
  · exact hs.conclude _

theorem State.BarredDoNotWait.cancelTicket {s : State} (hs : s.BarredDoNotWait) (t : Ticket) :
    (s.cancelTicket t).BarredDoNotWait := by
  unfold State.cancelTicket
  split
  · exact hs.conclude _
  · split
    · exact (hs.readyCell _ _).grantPass.finish _ _ _
    · exact hs.conclude _
    · exact hs.conclude _
    · exact hs.conclude _

theorem State.barredDoNotWait_cleared (s : State) : s.cleared.BarredDoNotWait :=
  State.barredDoNotWait_of_empty fun c => by rw [State.cell_cleared, WaitCell.state_emptied]

theorem State.BarredDoNotWait.lockCommand {s : State} (hs : s.BarredDoNotWait) :
    (if s.lock then s.conclude .ignored else { s with lock := true }.conclude .done).BarredDoNotWait := by
  split <;> exact hs.of_tables

theorem State.BarredDoNotWait.writeCommandWord {s : State} (hs : s.BarredDoNotWait) (code : BitVec 8) :
    BarredDoNotWaitIn (writeCommandWord code s) := by
  unfold Machine.writeCommandWord
  split
  · exact hs.nextUnlessReset hs.of_tables
  · exact hs.nextUnlessReset hs.of_tables
  · exact hs.nextUnlessReset hs.setAgentCommand
  · exact hs.nextUnlessReset hs.clearAgentCommand
  · exact hs.nextUnlessReset hs.startSweep
  · exact hs.nextUnlessReset hs.abortSweep
  · exact hs.nextUnlessReset hs.loadProfile
  · exact hs.nextUnlessReset hs.lockCommand
  · exact hs.nextUnlessReset (s.barredDoNotWait_cleared.grantPass.conclude _)
  · exact hs.nextUnlessReset (hs.readRecord _)
  · exact hs.nextUnlessReset (hs.readRecord _)
  · exact hs.nextUnlessReset (hs.readRecord _)
  · exact hs.nextUnlessReset (hs.readRecord _)
  · exact hs.nextUnlessReset hs.dropSnapshot
  · exact hs.nextUnlessReset (hs.setFence _)
  · exact hs.nextUnlessReset (hs.clearFence _)
  · exact hs.nextUnlessReset (hs.revokePair _)
  · exact hs.nextUnlessReset (hs.cancelTicket _)
  · exact hs.nextUnlessReset (hs.conclude _)

theorem State.BarredDoNotWait.storeWord {s : State} (hs : s.BarredDoNotWait) (n : Nat) (data : Word) :
    (s.storeWord n data).BarredDoNotWait := by
  unfold State.storeWord
  split_ifs <;> exact hs.of_tables

theorem State.BarredDoNotWait.execRegisterWrite {s : State} (hs : s.BarredDoNotWait) (addr : BitVec 6) (data : Word) :
    BarredDoNotWaitIn (execRegisterWrite addr data s) := by
  unfold Machine.execRegisterWrite
  split
  · exact hs.writeCommandWord _
  · exact hs.nextUnlessReset hs.of_tables
  · exact hs.nextUnlessReset hs.of_tables
  · exact hs.nextUnlessReset hs.of_tables
  · exact hs.nextUnlessReset (hs.storeWord _ data)

/-! ### Visits (R154 to R157) -/

theorem State.BarredDoNotWait.visitAction {s : State} (hs : s.BarredDoNotWait) (k : SlotNo) :
    (s.visitAction k).1.BarredDoNotWait := by
  unfold State.visitAction
  cases (s.slot k).state with
  | held l r =>
    dsimp only
    split
    · exact hs.revokeLease k l
    · exact hs
  | lapsed l r =>
    dsimp only
    split
    · exact hs.revokeLease k l
    · exact hs
  | reserved l c =>
    dsimp only
    split
    · exact hs.withdrawGrant k c
    · exact hs
  | _ => exact hs

theorem State.BarredDoNotWait.visitSlot {s : State} (hs : s.BarredDoNotWait) (k : SlotNo) :
    (s.visitSlot k).BarredDoNotWait := by
  have haction := hs.visitAction k
  unfold State.visitSlot
  generalize s.visitAction k = r at haction
  have hadvanced : State.BarredDoNotWait { r.1 with sweep := r.1.sweep.advanced (k.val + 1) r.2.2 } := haction.of_tables
  dsimp only
  split_ifs
  · exact (hadvanced.endSweep .completed).grantPass
  · exact hadvanced.grantPass
  · exact hadvanced

theorem State.BarredDoNotWait.execVisit {s : State} (hs : s.BarredDoNotWait) : BarredDoNotWaitIn (execVisit s) := by
  refine State.BarredDoNotWait.next ?_
  split_ifs
  · exact hs.visitSlot _
  · exact hs
  · exact hs

/-! ### Every row -/

theorem State.barredDoNotWait_poweredOn (s : State) (g : Bool) (n : BitVec 2) (w : Word) :
    (s.poweredOn g n w).BarredDoNotWait :=
  State.barredDoNotWait_of_empty fun c => by rw [State.cell_poweredOn]

theorem State.barredDoNotWait_resetAsserted (s : State) : s.resetAsserted.BarredDoNotWait :=
  (s.barredDoNotWait_poweredOn s.granule64 s.agentsCode s.attach).of_tables

theorem State.BarredDoNotWait.exec {s : State} (hs : s.BarredDoNotWait) (i : Instr) : BarredDoNotWaitIn (exec i s) := by
  have command {n : Nat} (hi : i.commandCode = some n) : BarredDoNotWaitIn (Machine.exec i s) :=
    exec_eq_writeCommandWord hi s ▸ hs.writeCommandWord _
  cases i with
  | acquire w1 w2 w3 => exact hs.takeRequest fun _ _ hr => hs.serveAcquire hr _
  | renew w1 w2 w3 => exact hs.takeRequest fun _ _ _ => hs.serveRenew _ _ _
  | release w1 w2 w3 => exact hs.takeRequest fun _ _ _ => hs.serveRelease _ _
  | poll w1 w2 w3 => exact hs.takeRequest fun _ _ _ => hs.servePoll _ _
  | withdraw w1 w2 w3 => exact hs.takeRequest fun _ _ _ => hs.serveWithdraw _ _
  | unknownRequest w1 w2 w3 => exact hs.takeRequest fun _ _ _ => hs
  | arbiterChoice req =>
    have hreq : State.BarredDoNotWait { s with req := req } := hs.of_tables
    exact hreq.nextUnlessReset hreq.choose
  | tenureEnd => exact hs.execTenureEnd
  | tenureLimitExpiry => exact hs.execTenureLimitExpiry
  | attach a => exact hs.of_tables.next
  | detach a => exact hs.execDetach a
  | powerOn g n l => exact (s.barredDoNotWait_poweredOn g n l).next
  | termExpiry k => exact hs.execTermExpiry k
  | holdExpiry k => exact hs.execHoldExpiry k
  | waitLimitExpiry c => exact hs.execWaitLimitExpiry c
  | collectionExpiry c => exact hs.execCollectionExpiry c
  | lookup a addr kind =>
    have hheld : State.BarredDoNotWait { s with heldLookups := s.heldLookups ++ [⟨a, addr, kind⟩] } := hs.of_tables
    exact (hheld.congr (State.presentNext_sameTables _)).next
  | trespassCharge => exact hs.execTrespassCharge
  | visit => exact hs.execVisit
  | unknownCommand code => exact hs.writeCommandWord code
  | closingRead => exact hs.of_tables.next
  | enableWrite data => exact hs.nextUnlessReset hs.of_tables
  | globalEnableWrite on => exact hs.nextUnlessReset hs.of_tables
  | elevateWrite field => exact hs.nextUnlessReset hs.of_tables
  | acknowledge data => exact hs.nextUnlessReset hs.of_tables
  | registerWrite addr data => exact hs.execRegisterWrite addr data
  | firstRequestWord w0 => exact hs.execFirstRequestWord w0
  | resetHeld => exact (s.barredDoNotWait_resetAsserted.congr (State.takePresented_sameTables _)).next
  | _ => exact command rfl

theorem State.BarredDoNotWait.tick {s : State} (hs : s.BarredDoNotWait) : s.tick.BarredDoNotWait := by
  have hpolled := hs.congr s.pollCheckPort_sameTables
  exact hpolled.unlessReset hpolled.passMicrosecond

/-- Settles O57: an agent begins to wait only while it is not BARRED (R72), and whatever bars an agent readies its entries in the same
step (R130). -/
theorem stepKeepsBarredWithoutWaiters : Obligations.StepKeepsBarredWithoutWaiters := by
  intro s t hs h
  unfold step at h
  split at h
  · cases h
    exact hs.tick
  · next i rest _ =>
    have hrest : State.BarredDoNotWait { s with pending := rest } := hs.of_tables
    obtain ⟨u, hu, hkept⟩ := hrest.exec i
    cases hu.symm.trans h
    exact hkept

end Sys2Proof.Machine
end

section
/-! SUPPORT. Charges and credits: what each makes of the record, and that nothing else moves but through a change of standing (R125 to
R130); the TRESPASS charge taken from the queue, and the LOOKUP that fills it (R126, R137, R144, R188). -/

set_option Elab.async false

namespace Sys2Proof.Machine

/-! ### The record written (R125, R127, R134) -/

theorem State.agent_updateConduct (s : State) (a b : AgentNo) (r : AgentRecord) :
    (s.updateConduct a r).agent b = if a = b then r else s.agent b := by
  rw [State.updateConduct_frame, ← State.agent_setAgent]
  rfl

theorem State.standing_updateConduct (s : State) (a b : AgentNo) (r : AgentRecord) :
    (s.updateConduct a r).standing b = if a = b then r.standing else s.standing b :=
  (State.standing_standingChanged _ a b _).trans (s.standing_setAgent a b r)

/-- A record written leaves all but the agents' records, the interrupt sources and the cells as they are, every other agent's record too,
and where the standing stays it leaves those sources and cells (R128 to R130). -/
theorem State.updateConduct_leaves (s : State) (a : AgentNo) (r : AgentRecord) :
    let t := s.updateConduct a r
    t = { s with agents := t.agents, sources := t.sources, cells := t.cells } ∧ (∀ b, b ≠ a → t.agent b = s.agent b) ∧
      (t.standing a = s.standing a → t.sources = s.sources ∧ t.cells = s.cells) := by
  refine ⟨?_, fun b hb => ?_, fun hsame => ?_⟩
  · conv_lhs => rw [State.updateConduct_frame]
    conv_rhs => rw [State.updateConduct_frame]
  · rw [State.agent_updateConduct, if_neg (Ne.symm hb)]
  · rw [State.standing_updateConduct, if_pos rfl] at hsame
    rw [State.updateConduct_of_same hsame]
    exact ⟨rfl, rfl⟩

/-! ### One score charged and credited (R125, R127) -/

theorem Score.rawCount_charged_of_lt {x : Score} (h : x.rawCount < 65535) : x.charged.rawCount = x.rawCount + 1 := if_pos h

theorem Score.rawCount_charged_of_full {x : Score} (h : x.rawCount = 65535) : x.charged.rawCount = 65535 :=
  (if_neg (by omega)).trans h

theorem State.agent_charge (s : State) (a : AgentNo) (n : ScoreName) : (s.charge a n).agent a = (s.agent a).charged n := by
  rw [State.charge, State.agent_updateConduct, if_pos rfl]

theorem State.agent_credit (s : State) (a : AgentNo) : (s.credit a).agent a = (s.agent a).credited := by
  rw [State.credit, State.agent_updateConduct, if_pos rfl]

/-- Settles O25: a charge and a credit write the agent's record, so the rest is what writing a record leaves. -/
theorem chargesAndCredits : Obligations.ChargesAndCredits := by
  refine ⟨fun x => ⟨rfl, rfl, Score.rawCount_charged_of_lt, Score.rawCount_charged_of_full, rfl⟩, fun s a =>
    ⟨s.agent_charge a .overstay, s.agent_charge a .abandon, s.agent_charge a .trespass, s.agent_credit a, ?_⟩⟩
  rintro t (rfl | ⟨n, rfl⟩)
  · exact s.updateConduct_leaves a (s.agent a).credited
  · exact s.updateConduct_leaves a ((s.agent a).charged n)

/-! ### The TRESPASS charge taken from the queue (R126, R144) -/

/-- The pass a record written calls for: one where it bars an agent that waits, and none otherwise (R98, R130). The record may be written in
a state `m` that the command has already changed outside the cells. -/
theorem State.passIfReadied_updateConduct {s m v : State} {a : AgentNo} {r : AgentRecord} (hcells : m.cells = s.cells)
    (hstanding : m.standing a = s.standing a)
    (hv : s.BarsWaiter (m.updateConduct a r) a ∧ v = (m.updateConduct a r).grantPass ∨
      ¬ s.BarsWaiter (m.updateConduct a r) a ∧ v = m.updateConduct a r) :
    s.passIfReadied (m.updateConduct a r) = v := by
  have hleft : someLeftWaiting s (m.updateConduct a r) = true ↔ s.BarsWaiter (m.updateConduct a r) a :=
    someLeftWaiting_iff_barsWaiter s (m.setAgent a r) _ a hcells (by rw [State.updateConduct, hstanding])
      (State.standing_standingChanged _ _ _ _)
  obtain ⟨hbars, rfl⟩ | ⟨hbars, rfl⟩ := hv
  · exact if_pos (hleft.2 hbars)
  · exact if_neg (hbars ∘ hleft.1)

theorem exec_trespassCharge_of_empty {s : State} (h : s.charges = []) : exec .trespassCharge s = .next s := by
  change execTrespassCharge s = _
  simp only [execTrespassCharge, h]

theorem exec_trespassCharge_of_cons {s : State} {a : AgentNo} {rest : List AgentNo} (h : s.charges = a :: rest) :
    exec .trespassCharge s = .next (s.applyTrespass a rest).takePresented := by
  change execTrespassCharge s = _
  simp only [execTrespassCharge, h]

/-- Settles O27: the charge leaves the check port as it stood, so the lookup presented is taken exactly where the rest of the queue has
room. -/
theorem trespassChargeTaken : Obligations.TrespassChargeTaken := by
  refine ⟨fun s => exec_trespassCharge_of_empty, ?_⟩
  rintro s a rest u v hr hcharges rfl hpass
  have hv : s.applyTrespass a rest = v :=
    State.passIfReadied_updateConduct (m := { s with charges := rest }) rfl rfl hpass
  have hchanges : Changes { s with charges := rest } v := hv ▸ changes_applyTrespass s a rest
  have hrun : v.resetHeld = false := hchanges.resetHeld.trans hr
  obtain ⟨hqueue, hpresented, _⟩ := hchanges.checkPort
  rw [exec_trespassCharge_of_cons hcharges, hv]
  refine ⟨?_, ?_⟩
  · rintro (hnone | hfull)
    · rw [State.takePresented_of_none (hpresented.trans hnone)]
    · rw [State.takePresented_of_full hrun (hqueue ▸ hfull)]
  · rintro l x hl hroom rfl
    rw [State.takePresented_of_room hrun (hqueue ▸ hroom) (hpresented.trans hl)]

/-! ### LOOKUP (R126, R137, R144, R188) -/

/-- Behind a lookup that stands presented a LOOKUP is only held back (R137). -/
theorem exec_lookup_of_presented {s : State} (h : s.presented ≠ none) (a : AgentNo) (addr : BitVec 40) (kind : AccessKind) :
    exec (.lookup a addr kind) s = .next { s with heldLookups := s.heldLookups ++ [⟨a, addr, kind⟩] } :=
  congrArg Host.Outcome.next (State.presentNext_of_noRise (s := { s with heldLookups := _ }) (.inl h))

/-- With none presented a LOOKUP is a rise of CK_VALID, with the oldest lookup not yet presented (log 10). -/
theorem exec_lookup_of_rise {s : State} {a : AgentNo} {addr : BitVec 40} {kind : AccessKind} {l : Lookup} {more : List Lookup}
    (hp : s.presented = none) (h : s.heldLookups ++ [⟨a, addr, kind⟩] = l :: more) :
    exec (.lookup a addr kind) s =
      .next (State.takePresented { s with presented := some l, heldLookups := more, ckAnswer := none }) :=
  congrArg Host.Outcome.next (State.presentNext_of_rise (s := { s with heldLookups := _ }) hp h)

/-- Settles O28: the rise comes with the oldest lookup, which is taken or stands presented as the charge queue has room. -/
theorem lookupsAreAnswered : Obligations.LookupsAreAnswered := by
  intro s a addr kind hr
  refine ⟨fun hp => exec_lookup_of_presented hp a addr kind, ?_⟩
  rintro hp l more x holdest rfl
  have hqueue : s.heldLookups ++ [⟨a, addr, kind⟩] = l :: more := by
    obtain ⟨hnone, rfl, rfl⟩ | ⟨rest, hrest, rfl⟩ := holdest
    · rw [hnone, List.nil_append]
    · rw [hrest, List.cons_append]
  rw [exec_lookup_of_rise hp hqueue]
  refine ⟨fun hroom => ?_, fun hfull => ?_⟩
  · exact congrArg Host.Outcome.next (State.takePresented_of_room hr hroom rfl)
  · exact congrArg Host.Outcome.next (State.takePresented_of_full hr hfull)

end Sys2Proof.Machine
end

section
/-! SUPPORT. SET_AGENT: where its fields are read, its tests in order, and the record it writes (R133, R134, R189). -/

set_option Elab.async false

namespace Sys2Proof.Machine

/-! ### The fields of the parameter words (R189) -/

theorem portParams_eq_some_iff (ps : Vector Word 6) (c : ArbiterClass) (n : Nat) :
    portParams ps = some (c, n) ↔ fieldOf ps[1] 4 2 = c.code ∧ n = fieldOf ps[1] 8 8 ∧ n ≤ 16 := by
  rw [← arbiterClassOf_eq_some_iff, portParams]
  cases arbiterClassOf (fieldOf ps[1] 4 2) with
  | none => simp
  | some d =>
    dsimp only
    constructor
    · intro h
      split at h <;> cases h
      exact ⟨rfl, rfl, ‹_›⟩
    · rintro ⟨hc, rfl, hmax⟩
      cases hc
      exact if_pos hmax

theorem settingsParam_eq_some_iff (w : Word) (x : ScoreSettings) :
    settingsParam w = some x ↔
      fieldOf w 16 2 = x.scoreClass.code ∧ x.threshold = fieldOf w 0 8 ∧ x.threshold ≤ 100 ∧ x.penalty = fieldOf w 8 8 ∧
        1 ≤ x.penalty ∧ x.penalty ≤ 50 := by
  rw [← scoreClassOf_eq_some_iff, settingsParam]
  cases scoreClassOf (fieldOf w 16 2) with
  | none => simp
  | some d =>
    dsimp only
    constructor
    · intro h
      split at h <;> cases h
      next hrange => exact ⟨rfl, rfl, hrange.1, rfl, hrange.2⟩
    · obtain ⟨threshold, penalty, c⟩ := x
      rintro ⟨hc, rfl, hmax, rfl, hmin⟩
      cases hc
      exact if_pos ⟨hmax, hmin⟩

theorem conductParams_of_some {ps : Vector Word 6} {o a t : ScoreSettings} (ho : settingsParam ps[2] = some o)
    (ha : settingsParam ps[3] = some a) (ht : settingsParam ps[4] = some t) : conductParams ps = some (o, a, t) := by
  simp only [conductParams, ho, ha, ht]

theorem conductParams_ne_none_iff (ps : Vector Word 6) :
    conductParams ps ≠ none ↔ settingsParam ps[2] ≠ none ∧ settingsParam ps[3] ≠ none ∧ settingsParam ps[4] ≠ none := by
  rw [ne_eq, conductParams_eq_none_iff, not_or, not_or]

/-! ### The tests, in their order (R133) -/

/-- The port part passes its range test (R133). -/
def PortPartGood (ps : Vector Word 6) : Prop := portFlagged ps = true → portParams ps ≠ none

/-- The conduct part passes its range test and that of the lock (R133). -/
def State.ConductPartGood (s : State) : Prop := conductFlagged s.params = true → conductParams s.params ≠ none ∧ s.lock = false

theorem State.setAgentRefusal_of_badPort {s : State} (a : AgentNo) (hf : portFlagged s.params = true)
    (hp : portParams s.params = none) : s.setAgentRefusal a = some .badArgument := by
  simp [State.setAgentRefusal, hf, hp]

theorem State.setAgentRefusal_of_goodPort {s : State} (a : AgentNo) (h : PortPartGood s.params) :
    s.setAgentRefusal a =
      if conductFlagged s.params && (conductParams s.params).isNone then some .badArgument
      else if conductFlagged s.params && s.lock then some .locked
      else if portFlagged s.params && (portParams s.params).any fun q => decide (q.2 < s.ownedSlots a) then some .inUse
      else none :=
  if_neg (by simpa [PortPartGood] using h)

theorem State.setAgentRefusal_of_badConduct {s : State} (a : AgentNo) (h : PortPartGood s.params)
    (hf : conductFlagged s.params = true) (hc : conductParams s.params = none) : s.setAgentRefusal a = some .badArgument := by
  simp [State.setAgentRefusal_of_goodPort a h, hf, hc]

theorem State.setAgentRefusal_of_locked {s : State} (a : AgentNo) (h : PortPartGood s.params)
    (hf : conductFlagged s.params = true) (hc : conductParams s.params ≠ none) (hl : s.lock = true) :
    s.setAgentRefusal a = some .locked := by
  simp [State.setAgentRefusal_of_goodPort a h, hf, hc, hl]

theorem State.setAgentRefusal_of_goodParts {s : State} (a : AgentNo) (h : PortPartGood s.params) (hc : s.ConductPartGood) :
    s.setAgentRefusal a =
      if portFlagged s.params && (portParams s.params).any fun q => decide (q.2 < s.ownedSlots a) then some .inUse else none := by
  rw [State.setAgentRefusal_of_goodPort a h, if_neg, if_neg]
  · simpa using fun hf => (hc hf).2
  · simpa using fun hf => (hc hf).1

theorem State.setAgentRefusal_of_overLimit {s : State} {a : AgentNo} {c : ArbiterClass} {n : Nat} (hc : s.ConductPartGood)
    (hf : portFlagged s.params = true) (hp : portParams s.params = some (c, n)) (hover : n < s.ownedSlots a) :
    s.setAgentRefusal a = some .inUse := by
  rw [State.setAgentRefusal_of_goodParts a (fun _ => by rw [hp]; nofun) hc]
  simp [hf, hp, hover]

theorem State.setAgentRefusal_eq_none {s : State} {a : AgentNo} {c : ArbiterClass} {n : Nat} (hc : s.ConductPartGood)
    (hp : portFlagged s.params = true → portParams s.params = some (c, n) ∧ s.ownedSlots a ≤ n) :
    s.setAgentRefusal a = none := by
  rw [State.setAgentRefusal_of_goodParts a (fun hf => by rw [(hp hf).1]; nofun) hc]
  refine if_neg fun hover => ?_
  rw [Bool.and_eq_true] at hover
  obtain ⟨hf, hover⟩ := hover
  obtain ⟨hparams, hfits⟩ := hp hf
  simp only [hparams, Option.any_some, decide_eq_true_eq] at hover
  exact absurd hover (Nat.not_lt.2 hfits)

theorem exec_setAgent_of_absent {s : State} (hr : s.resetHeld = false)
    (h : ∀ a : AgentNo, s.params[0].toNat = a.val → s.port a = .absent) :
    exec .setAgent s = .next (s.finish .badArgument 0 0) := by
  refine (next_unlessReset hr _).trans ?_
  rw [State.setAgentCommand, State.presentAgent_eq_none h]
  rfl

theorem exec_setAgent_of_refusal {s : State} {a : AgentNo} {x : ResultCode} (hr : s.resetHeld = false)
    (ha : s.presentAgent = some a) (h : s.setAgentRefusal a = some x) : exec .setAgent s = .next (s.finish x 0 0) := by
  refine (next_unlessReset hr _).trans ?_
  simp only [State.setAgentCommand, ha, h]
  rfl

theorem exec_setAgent_of_passed {s : State} {a : AgentNo} (hr : s.resetHeld = false) (ha : s.presentAgent = some a)
    (h : s.setAgentRefusal a = none) : exec .setAgent s = .next ((s.applySetAgent a).setAgentDone a) := by
  refine (next_unlessReset hr _).trans ?_
  simp only [State.setAgentCommand, ha, h]

/-! ### What is applied (R134) -/

theorem AgentRecord.withPortPart_of_unflagged {ps : Vector Word 6} (h : portFlagged ps = false) (r : AgentRecord) :
    r.withPortPart ps = r := by
  simp [AgentRecord.withPortPart, h]

theorem AgentRecord.withPortPart_of_flagged {ps : Vector Word 6} {c : ArbiterClass} {n : Nat} (h : portFlagged ps = true)
    (hp : portParams ps = some (c, n)) (r : AgentRecord) : r.withPortPart ps = { r with arbiterClass := c, leaseLimit := n } := by
  simp [AgentRecord.withPortPart, h, hp]

theorem AgentRecord.withConductPart_of_unflagged {ps : Vector Word 6} (h : conductFlagged ps = false) (r : AgentRecord) :
    r.withConductPart ps = r := by
  simp [AgentRecord.withConductPart, h]

theorem AgentRecord.withConductPart_of_flagged {ps : Vector Word 6} {o a t : ScoreSettings} (h : conductFlagged ps = true)
    (hp : conductParams ps = some (o, a, t)) (r : AgentRecord) : r.withConductPart ps = r.withSettings o a t := by
  simp [AgentRecord.withConductPart, h, hp]

/-- The record SET_AGENT applies: each part that is flagged from its parameter words, the history of the scores kept (R134). -/
theorem AgentRecord.withParts_eq {ps : Vector Word 6} {old r : AgentRecord}
    (hport : portFlagged ps = false → r.arbiterClass = old.arbiterClass ∧ r.leaseLimit = old.leaseLimit)
    (hports : portFlagged ps = true → portParams ps = some (r.arbiterClass, r.leaseLimit))
    (hkept : r.overstay = { old.overstay with settings := r.overstay.settings } ∧
      r.abandon = { old.abandon with settings := r.abandon.settings } ∧
      r.trespass = { old.trespass with settings := r.trespass.settings })
    (hconduct : conductFlagged ps = false → r.overstay = old.overstay ∧ r.abandon = old.abandon ∧ r.trespass = old.trespass)
    (hconducts : conductFlagged ps = true →
      conductParams ps = some (r.overstay.settings, r.abandon.settings, r.trespass.settings)) :
    (old.withPortPart ps).withConductPart ps = r := by
  have hfirst : old.withPortPart ps = { old with arbiterClass := r.arbiterClass, leaseLimit := r.leaseLimit } := by
    cases hf : portFlagged ps with
    | false =>
      obtain ⟨hclass, hlimit⟩ := hport hf
      rw [AgentRecord.withPortPart_of_unflagged hf, hclass, hlimit]
    | true => exact AgentRecord.withPortPart_of_flagged hf (hports hf) old
  rw [hfirst]
  cases hf : conductFlagged ps with
  | false =>
    obtain ⟨hoverstay, habandon, htrespass⟩ := hconduct hf
    rw [AgentRecord.withConductPart_of_unflagged hf, ← hoverstay, ← habandon, ← htrespass]
  | true =>
    obtain ⟨hoverstay, habandon, htrespass⟩ := hkept
    rw [AgentRecord.withConductPart_of_flagged hf (hconducts hf)]
    obtain ⟨_, _, _, _, _⟩ := r
    exact (AgentRecord.mk.injEq ..).mpr ⟨rfl, rfl, hoverstay.symm, habandon.symm, htrespass.symm⟩

/-- The pass SET_AGENT makes: one where the limit rose or the new standing readied an entry (R134; log 16). -/
theorem State.applySetAgent_eq {s v : State} {a : AgentNo} {r : AgentRecord}
    (hr : ((s.agent a).withPortPart s.params).withConductPart s.params = r)
    (hv : ((s.agent a).leaseLimit < r.leaseLimit ∨ s.BarsWaiter (s.updateConduct a r) a) ∧ v = (s.updateConduct a r).grantPass ∨
      r.leaseLimit ≤ (s.agent a).leaseLimit ∧ ¬ s.BarsWaiter (s.updateConduct a r) a ∧ v = s.updateConduct a r) :
    s.applySetAgent a = v := by
  simp only [State.applySetAgent, hr]
  by_cases hrose : (s.agent a).leaseLimit < r.leaseLimit
  · rw [if_pos hrose]
    obtain ⟨_, rfl⟩ | ⟨hle, _⟩ := hv
    · rfl
    · exact absurd hrose (Nat.not_lt.2 hle)
  · rw [if_neg hrose]
    refine State.passIfReadied_updateConduct rfl rfl ?_
    obtain ⟨hpass, hv⟩ | ⟨_, hstay⟩ := hv
    · exact .inl ⟨hpass.resolve_left hrose, hv⟩
    · exact .inr hstay

/-- Settles O39: the fields of the parameter words, then the tests in their order, then what a command that passes them applies. -/
theorem setAgentTestsAndApplies : Obligations.SetAgentTestsAndApplies := by
  refine ⟨portParams_eq_some_iff, settingsParam_eq_some_iff, fun s hr => ⟨exec_setAgent_of_absent hr, ?_⟩⟩
  rintro a port conduct old ha hpresent rfl rfl rfl
  have hagent : s.presentAgent = some a := State.presentAgent_of_present ha hpresent
  refine ⟨fun hf hp => ?_, fun hport hf hc => ?_, fun hport hf ho hb ht hl => ?_, fun hconduct hf hover => ?_, ?_⟩
  · exact exec_setAgent_of_refusal hr hagent (State.setAgentRefusal_of_badPort a hf hp)
  · exact exec_setAgent_of_refusal hr hagent
      (State.setAgentRefusal_of_badConduct a hport hf ((conductParams_eq_none_iff _).2 hc))
  · exact exec_setAgent_of_refusal hr hagent
      (State.setAgentRefusal_of_locked a hport hf ((conductParams_ne_none_iff _).2 ⟨ho, hb, ht⟩) hl)
  · obtain ⟨c, n, hp, hlt⟩ := hover
    have hgood : s.ConductPartGood := fun h =>
      have ⟨ho, hb, ht, hl⟩ := hconduct h
      ⟨(conductParams_ne_none_iff _).2 ⟨ho, hb, ht⟩, hl⟩
    exact exec_setAgent_of_refusal hr hagent (State.setAgentRefusal_of_overLimit hgood hf hp hlt)
  · rintro r u v hport hports hkept hconduct hconducts rfl hpass
    have hparams : conductFlagged s.params = true →
        conductParams s.params = some (r.overstay.settings, r.abandon.settings, r.trespass.settings) := fun hf =>
      have ⟨_, ho, hb, ht⟩ := hconducts hf
      conductParams_of_some ho hb ht
    have hpassed : s.setAgentRefusal a = none := State.setAgentRefusal_eq_none
      (fun hf => ⟨by rw [hparams hf]; nofun, (hconducts hf).1⟩) hports
    have hrecord := AgentRecord.withParts_eq hport (fun hf => (hports hf).1) hkept hconduct hparams
    rw [exec_setAgent_of_passed hr hagent hpassed, State.applySetAgent_eq hrecord hpass]
    rfl

end Sys2Proof.Machine
end

section
/-! SUPPORT. The check port's decision: the partition of a granule, one lemma for each row of the table, and what an ALLOW rests on (R139,
R143). -/

namespace Sys2Proof.Machine

/-! ### The partition of a granule (R6, R7) -/

theorem GranuleRange.intersects_of_covers {r q : GranuleRange} {g : Word} (hr : r.covers g = true) (hq : q.covers g = true) :
    r.intersects q = true := by
  rw [GranuleRange.covers_iff] at hr hq
  exact (r.intersects_iff q).2 ⟨BitVec.le_trans hr.1 hq.2, BitVec.le_trans hq.1 hr.2⟩

theorem Partition.valid_and_covers_of_admits {p : Partition} {a : AgentNo} {g : Word} (h : p.admits a g = true) :
    p.valid = true ∧ p.range.covers g = true := by
  obtain ⟨hvalid, hcovers, -⟩ := (p.admits_iff a g).1 h
  exact ⟨hvalid, (p.range.covers_iff g).2 hcovers⟩

/-- Only one entry of a sound map admits a granule: two would be valid and have it in common (R6). -/
theorem State.MapSound.admits_unique {s : State} (hs : s.MapSound) {i j : Fin 8} {a : AgentNo} {g : Word}
    (hi : s.map[i].admits a g = true) (hj : s.map[j].admits a g = true) : i = j := by
  by_contra hne
  obtain ⟨hvi, hci⟩ := Partition.valid_and_covers_of_admits hi
  obtain ⟨hvj, hcj⟩ := Partition.valid_and_covers_of_admits hj
  have hdisjoint := hs i j hne hvi hvj
  rw [GranuleRange.intersects_of_covers hci hcj] at hdisjoint
  cases hdisjoint

theorem admits_of_openPartition {map : Vector Partition 8} {a : AgentNo} {g : Word} {p : Partition}
    (h : openPartition map a g = some p) : ∃ i : Fin 8, map[i] = p ∧ map[i].admits a g = true := by
  obtain ⟨i, hi, rfl⟩ := Vector.mem_iff_getElem.1 (Vector.mem_toList_iff.1 (List.mem_of_find?_eq_some h))
  have hadmits := List.find?_some (p := fun q : Partition => q.admits a g) h
  exact ⟨⟨i, hi⟩, rfl, hadmits⟩

theorem State.MapSound.openPartition_of_admits {s : State} (hs : s.MapSound) {i : Fin 8} {a : AgentNo} {g : Word}
    (hi : s.map[i].admits a g = true) : openPartition s.map a g = some s.map[i] := by
  cases h : openPartition s.map a g with
  | none => exact absurd hi (Bool.eq_false_iff.1 ((openPartition_eq_none_iff _ _ _).1 h i))
  | some p =>
    obtain ⟨j, rfl, hj⟩ := admits_of_openPartition h
    rw [hs.admits_unique hi hj]

/-! ### The rows, from the top (R139) -/

/-- Row 1. -/
theorem State.decideAccess_of_notAttached {s : State} {a : AgentNo} (h : s.port a ≠ .attached) (g : Word) (kind : AccessKind) :
    s.decideAccess a g kind = .deny .offline := by
  simp [State.decideAccess, h]

/-- Row 2. -/
theorem State.decideAccess_of_outside {s : State} {a : AgentNo} {g : Word} (hport : s.port a = .attached)
    (h : openPartition s.map a g = none) (kind : AccessKind) : s.decideAccess a g kind = .deny .outside := by
  simp [State.decideAccess, hport, h]

/-- What rows 3 to 7 have ruled out when a lookup reaches row 8 (R139, R143). -/
structure State.ReachesRowEight (s : State) (a : AgentNo) (g : Word) (kind : AccessKind) : Prop where
  noFence : ¬ s.FenceOn g
  noOwnExclusive : ¬ s.HeldOn a .exclusive g
  noOwnShared : ¬ s.HeldOn a .shared g
  noOtherExclusive : ¬ s.OtherOn a .exclusive g
  noOtherShared : kind = .read ∨ ¬ s.OtherOn a .shared g

section Rows

variable {s : State} {a : AgentNo} {g : Word} {p : Partition} (hport : s.port a = .attached) (hopen : openPartition s.map a g = some p)
include hport hopen

/-- Row 3. -/
theorem State.decideAccess_of_fence (h : s.FenceOn g) (kind : AccessKind) : s.decideAccess a g kind = .deny .fence := by
  rw [← State.fenceOn_iff] at h
  simp [State.decideAccess, hport, hopen, h]

/-- Row 4. -/
theorem State.decideAccess_of_ownExclusive (hfence : ¬ s.FenceOn g) (h : s.HeldOn a .exclusive g) (kind : AccessKind) :
    s.decideAccess a g kind = .allow := by
  rw [← State.fenceOn_iff] at hfence
  rw [← State.heldOn_iff] at h
  simp [State.decideAccess, hport, hopen, hfence, h]

/-- Row 5. -/
theorem State.decideAccess_of_ownShared (hfence : ¬ s.FenceOn g) (hexclusive : ¬ s.HeldOn a .exclusive g) (h : s.HeldOn a .shared g) :
    s.decideAccess a g .read = .allow ∧ s.decideAccess a g .write = .deny .sharedOnly := by
  rw [← State.fenceOn_iff] at hfence
  rw [← State.heldOn_iff] at hexclusive h
  simp [State.decideAccess, hport, hopen, hfence, hexclusive, h]

/-- Rows 6 and 7. -/
theorem State.decideAccess_of_other {kind : AccessKind} (hfence : ¬ s.FenceOn g) (hexclusive : ¬ s.HeldOn a .exclusive g)
    (hshared : ¬ s.HeldOn a .shared g) (h : s.OtherOn a .exclusive g ∨ kind = .write ∧ s.OtherOn a .shared g) :
    s.decideAccess a g kind = .deny .heldByOther := by
  rw [← State.fenceOn_iff] at hfence
  rw [← State.heldOn_iff] at hexclusive hshared
  rw [← State.otherOn_iff, ← State.otherOn_iff] at h
  simp only [State.decideAccess, hport, hopen, hfence, hexclusive, hshared, ne_eq, not_true_eq_false, if_false]
  obtain h | ⟨rfl, h⟩ := h <;> simp [h]

/-- Rows 8 to 11, as the model tests them. -/
theorem State.decideAccess_of_reachesRowEight {kind : AccessKind} (h : s.ReachesRowEight a g kind) :
    s.decideAccess a g kind =
      if s.someSlot (SlotState.ownIdleOn a g) then .deny .notHeld else policyAnswer p.policy kind := by
  obtain ⟨hfence, hexclusive, hshared, hotherExclusive, hotherShared⟩ := h
  rw [← State.fenceOn_iff] at hfence
  rw [← State.heldOn_iff] at hexclusive hshared
  rw [← State.otherOn_iff] at hotherExclusive hotherShared
  obtain rfl | hother := hotherShared
  · simp [State.decideAccess, hport, hopen, hfence, hexclusive, hshared, hotherExclusive]
  · simp [State.decideAccess, hport, hopen, hfence, hexclusive, hshared, hotherExclusive, hother]

/-- Row 8. -/
theorem State.decideAccess_of_ownIdle {kind : AccessKind} (h : s.ReachesRowEight a g kind) (hidle : s.OwnIdleOn a g) :
    s.decideAccess a g kind = .deny .notHeld := by
  rw [State.decideAccess_of_reachesRowEight hport hopen h, if_pos ((s.ownIdleOn_iff a g).2 hidle)]

/-- Rows 9 to 11. -/
theorem State.decideAccess_of_policy {kind : AccessKind} (h : s.ReachesRowEight a g kind) (hidle : ¬ s.OwnIdleOn a g) :
    s.decideAccess a g kind = policyAnswer p.policy kind := by
  rw [State.decideAccess_of_reachesRowEight hport hopen h, if_neg (hidle ∘ (s.ownIdleOn_iff a g).1)]

end Rows

/-- The decision reads the port state, the map and the Lease Table, and nothing else (R139). -/
theorem State.decideAccess_congr {s t : State} {a : AgentNo} (hport : s.port a = t.port a) (hmap : s.map = t.map)
    (hslots : s.slots = t.slots) (g : Word) (kind : AccessKind) : s.decideAccess a g kind = t.decideAccess a g kind := by
  have hsome : s.someSlot = t.someSlot := by
    funext p
    rw [State.someSlot, State.someSlot, hslots]
  unfold State.decideAccess
  rw [hport, hmap, hsome]

/-- Settles O29, row by row; on a sound map the partition of the decision is the entry that admits the granule. -/
theorem lookupDecisionTable : Obligations.LookupDecisionTable := by
  refine ⟨fun s a g kind hmap =>
    ⟨fun hport => State.decideAccess_of_notAttached hport g kind, fun hport => ⟨fun houtside => ?_, ?_⟩⟩,
    fun s t a g kind hport hmap hslots => State.decideAccess_congr hport hmap hslots g kind⟩
  · exact State.decideAccess_of_outside hport ((openPartition_eq_none_iff _ _ _).2 houtside) kind
  intro i hi
  have hopen := hmap.openPartition_of_admits hi
  refine ⟨fun h => State.decideAccess_of_fence hport hopen h kind, fun hfence =>
    ⟨fun h => State.decideAccess_of_ownExclusive hport hopen hfence h kind, fun hexclusive =>
    ⟨State.decideAccess_of_ownShared hport hopen hfence hexclusive, fun hshared =>
    ⟨fun h => State.decideAccess_of_other hport hopen hfence hexclusive hshared (.inl h), fun hotherExclusive =>
    ⟨fun h => State.decideAccess_of_other hport hopen hfence hexclusive hshared (.inr ⟨rfl, h⟩), fun hotherShared =>
    have hreaches := ⟨hfence, hexclusive, hshared, hotherExclusive, hotherShared⟩
    ⟨State.decideAccess_of_ownIdle hport hopen hreaches, fun hidle => ?_⟩⟩⟩⟩⟩⟩
  rw [State.decideAccess_of_policy hport hopen hreaches hidle]
  refine ⟨fun hpolicy => ?_, fun hpolicy hread => ?_, fun hpolicy hwrite => ?_, fun hpolicy => ?_⟩
  · rw [hpolicy]; rfl
  · rw [hpolicy, hread]; rfl
  · rw [hpolicy, hwrite]; rfl
  · rw [hpolicy]; rfl

/-! ### What an ALLOW rests on (R143) -/

/-- A lookup is allowed in rows 4 and 5, or by the policy of a partition open to the agent. -/
theorem State.decideAccess_allow_cases {s : State} {a : AgentNo} {g : Word} {kind : AccessKind} (h : s.decideAccess a g kind = .allow) :
    s.HeldOn a .exclusive g ∨ (kind = .read ∧ s.HeldOn a .shared g) ∨
      (s.ReachesRowEight a g kind ∧ ¬ s.OwnIdleOn a g ∧
        ∃ i : Fin 8, s.map[i].admits a g = true ∧ policyAnswer s.map[i].policy kind = .allow) := by
  by_cases hport : s.port a = .attached
  case neg => cases (State.decideAccess_of_notAttached hport g kind).symm.trans h
  cases hopen : openPartition s.map a g with
  | none => cases (State.decideAccess_of_outside hport hopen kind).symm.trans h
  | some p =>
    by_cases hfence : s.FenceOn g
    · cases (State.decideAccess_of_fence hport hopen hfence kind).symm.trans h
    by_cases hexclusive : s.HeldOn a .exclusive g
    · exact .inl hexclusive
    by_cases hshared : s.HeldOn a .shared g
    · cases kind with
      | read => exact .inr (.inl ⟨rfl, hshared⟩)
      | write => cases (State.decideAccess_of_ownShared hport hopen hfence hexclusive hshared).2.symm.trans h
    by_cases hother : s.OtherOn a .exclusive g ∨ kind = .write ∧ s.OtherOn a .shared g
    · cases (State.decideAccess_of_other hport hopen hfence hexclusive hshared hother).symm.trans h
    obtain ⟨hotherExclusive, hwrite⟩ := not_or.1 hother
    have hotherShared : kind = .read ∨ ¬ s.OtherOn a .shared g := by
      cases kind with
      | read => exact .inl rfl
      | write => exact .inr fun hon => hwrite ⟨rfl, hon⟩
    have hreaches : s.ReachesRowEight a g kind := ⟨hfence, hexclusive, hshared, hotherExclusive, hotherShared⟩
    by_cases hidle : s.OwnIdleOn a g
    · cases (State.decideAccess_of_ownIdle hport hopen hreaches hidle).symm.trans h
    obtain ⟨i, rfl, hi⟩ := admits_of_openPartition hopen
    exact .inr (.inr ⟨hreaches, hidle, i, hi, (State.decideAccess_of_policy hport hopen hreaches hidle).symm.trans h⟩)

theorem policyAnswer_write_eq_allow_iff (p : Policy) : policyAnswer p .write = .allow ↔ p = .openAccess := by
  cases p <;> simp [policyAnswer]

theorem policyAnswer_read_eq_allow_iff (p : Policy) : policyAnswer p .read = .allow ↔ p = .openAccess ∨ p = .readOnly := by
  cases p <;> simp [policyAnswer]

theorem SlotState.claim?_cases {st : SlotState} {c : Claim} (h : st.claim? = some c) :
    st = .fence c.range ∨ ∃ l, st.holding? = some l ∧ c = l.claim := by
  cases st with
  | free | revoked => cases h
  | fence r => cases h; exact .inl rfl
  | reserved l _ | held l _ | lapsed l _ => cases h; exact .inr ⟨l, rfl, rfl⟩

theorem State.heldOn_or_ownIdleOn_of_holding {s : State} {k : SlotNo} {l : AgentLease} {g : Word}
    (hl : (s.slot k).state.holding? = some l) (hg : l.range.covers g = true) : s.HeldOn l.owner l.mode g ∨ s.OwnIdleOn l.owner g := by
  cases hst : (s.slot k).state with
  | free | fence | revoked => rw [hst] at hl; cases hl
  | reserved _ n => rw [hst] at hl; cases hl; exact .inr ⟨k, l, .inl ⟨n, hst⟩, rfl, hg⟩
  | held _ r => rw [hst] at hl; cases hl; exact .inl ⟨k, l, r, hst, rfl, rfl, hg⟩
  | lapsed _ r => rw [hst] at hl; cases hl; exact .inr ⟨k, l, .inr ⟨r, hst⟩, rfl, hg⟩

/-- The claims of the table on a granule are those that rows 3 to 8 look for, whichever agent asks (R14, R143). -/
theorem State.onGranule_of_claim {s : State} {k : SlotNo} {c : Claim} {g : Word} (hc : (s.slot k).state.claim? = some c)
    (hg : c.range.covers g = true) (a : AgentNo) :
    s.FenceOn g ∨ (∃ m, s.HeldOn a m g) ∨ (∃ m, s.OtherOn a m g) ∨ s.OwnIdleOn a g := by
  obtain hfence | ⟨l, hl, rfl⟩ := SlotState.claim?_cases hc
  · exact .inl ⟨k, c.range, hfence, hg⟩
  by_cases hown : l.owner = a
  · subst hown
    obtain hheld | hidle := State.heldOn_or_ownIdleOn_of_holding hl hg
    · exact .inr (.inl ⟨l.mode, hheld⟩)
    · exact .inr (.inr (.inr hidle))
  · exact .inr (.inr (.inl ⟨l.mode, k, l, hl, hown, rfl, hg⟩))

/-- A WRITE that passes row 8 has met no range-holding slot on its granule (R143). -/
theorem State.ReachesRowEight.noClaim {s : State} {a : AgentNo} {g : Word} (h : s.ReachesRowEight a g .write)
    (hidle : ¬ s.OwnIdleOn a g) (k : SlotNo) (c : Claim) (hc : c ∈ (s.slot k).state.claim?) : c.range.covers g = false := by
  by_contra hcovers
  have hotherShared : ¬ s.OtherOn a .shared g := h.noOtherShared.resolve_left nofun
  obtain hfence | ⟨m, hown⟩ | ⟨m, hother⟩ | hon := State.onGranule_of_claim hc (Bool.eq_true_of_not_eq_false hcovers) a
  · exact h.noFence hfence
  · cases m with
    | shared => exact h.noOwnShared hown
    | exclusive => exact h.noOwnExclusive hown
  · cases m with
    | shared => exact hotherShared hother
    | exclusive => exact h.noOtherExclusive hother
  · exact hidle hon

/-- Settles O30: the rows that allow, and what a WRITE has passed when it reaches the policy. -/
theorem writeAllowedOnlyByRight : Obligations.WriteAllowedOnlyByRight := by
  refine fun s a g => ⟨fun hwrite => ?_, fun hread => ?_⟩
  · obtain hexclusive | ⟨hkind, -⟩ | ⟨hreaches, hidle, i, hi, hpolicy⟩ := State.decideAccess_allow_cases hwrite
    · exact .inl hexclusive
    · cases hkind
    · exact .inr ⟨hreaches.noClaim hidle, i, hi, (policyAnswer_write_eq_allow_iff _).1 hpolicy⟩
  · obtain hexclusive | ⟨-, hshared⟩ | ⟨-, -, i, hi, hpolicy⟩ := State.decideAccess_allow_cases hread
    · exact .inl hexclusive
    · exact .inr (.inl hshared)
    · exact .inr (.inr ⟨i, hi, (policyAnswer_read_eq_allow_iff _).1 hpolicy⟩)

end Sys2Proof.Machine
end

section
/-! SUPPORT. The slots a sweep has visited stay clear of the leases it matches: the shared operations, and the walk over the rows of
spec/opcode_table.json (R159). A slot gets a range-holding lease only past the sweep conditions of R74, R76 and R99 (c), and the sweep passes
a slot only after the action of R155. -/

namespace Sys2Proof.Machine

/-! ### Changes that give no slot a matched lease -/

/-- Where slots only move and the sweep record stays, no slot passed by the sweep gets a matched lease. -/
theorem State.SweptSlotsClear.of_moves {s t : State} (hs : s.SweptSlotsClear)
    (hslot : ∀ k, SlotMove s (s.slot k).state (t.slot k).state) (hsweep : t.sweep = s.sweep := by rfl) : t.SweptSlotsClear := by
  intro k l hl hmatch
  obtain ⟨l', hl', howner, hrange⟩ := (hslot k).holding hl
  rw [hsweep] at hmatch ⊢
  refine hs k l' hl' ?_
  rwa [SweepRecord.matchesLease, howner, hrange]

/-- A change outside the slots and the sweep record. -/
theorem State.SweptSlotsClear.of_tables {s t : State} (hs : s.SweptSlotsClear) (hslots : t.slots = s.slots := by rfl)
    (hsweep : t.sweep = s.sweep := by rfl) : t.SweptSlotsClear :=
  hs.of_moves (fun k => State.slot_congr hslots k ▸ .stays _) hsweep

theorem State.SweptSlotsClear.congr {s t : State} (hs : s.SweptSlotsClear) (h : SameTables s t) : t.SweptSlotsClear :=
  hs.of_tables h.slots h.sweep

theorem SweepRecord.matchesLease_of_not_inProgress {r : SweepRecord} (h : r.status ≠ .inProgress) (l : AgentLease) :
    r.matchesLease l = false := by
  unfold SweepRecord.matchesLease SweepRecord.fallsOn SweepRecord.active?
  split <;> simp_all

/-- Of a sweep that is not IN_PROGRESS nothing is asked. -/
theorem State.sweptSlotsClear_of_not_inProgress {s : State} (h : s.sweep.status ≠ .inProgress) : s.SweptSlotsClear :=
  fun _ l _ hmatch => nomatch (SweepRecord.matchesLease_of_not_inProgress h l).symm.trans hmatch

/-- A sweep that has just started has passed no slot. -/
theorem State.sweptSlotsClear_of_nextSlot {s : State} (h : s.sweep.nextSlot = 0) : s.SweptSlotsClear :=
  fun k _ _ _ => h ▸ k.val.zero_le

/-! ### The shared operations -/

theorem State.SweptSlotsClear.setSlot {s : State} (hs : s.SweptSlotsClear) {k : SlotNo} {x : LeaseSlot}
    (h : SlotMove s (s.slot k).state x.state) : (s.setSlot k x).SweptSlotsClear := by
  refine hs.of_moves fun j => ?_
  rw [State.slot_setSlot]
  split
  · next hj => exact hj ▸ h
  · exact .stays _

/-- A slot may take a lease that the sweep does not match. -/
theorem State.SweptSlotsClear.fillSlot {s : State} (hs : s.SweptSlotsClear) (k : SlotNo) {x : SlotState}
    (hx : ∀ l, x.holding? = some l → ¬ s.SweepMatches l.owner l.range) : (s.setSlotState k x).SweptSlotsClear := by
  intro j l hl hmatch
  rw [State.slot_setSlotState] at hl
  split at hl
  · exact absurd ((s.matchesLease_iff l).1 hmatch) (hx l hl)
  · exact hs j l hl hmatch

theorem State.SweptSlotsClear.freeSlot {s : State} (hs : s.SweptSlotsClear) (k : SlotNo) : (s.freeSlot k).SweptSlotsClear :=
  hs.setSlot ((s.slot k).state_freed ▸ .freed _)

theorem State.SweptSlotsClear.freeReserved {s : State} (hs : s.SweptSlotsClear) (k : SlotNo) :
    (s.freeReserved k).SweptSlotsClear := by
  unfold State.freeReserved
  split
  · exact hs.freeSlot k
  · exact hs

theorem State.SweptSlotsClear.collectSlot {s : State} (hs : s.SweptSlotsClear) (k : SlotNo) :
    (s.collectSlot k).SweptSlotsClear := by
  unfold State.collectSlot
  split
  · next l c h => exact hs.setSlot (h ▸ .collected l c)
  · exact hs

/-- A REVOKED lease holds no range (R14, R44). -/
theorem State.SweptSlotsClear.revokeLease {s : State} (hs : s.SweptSlotsClear) (k : SlotNo) (l : AgentLease) :
    (s.revokeLease k l).SweptSlotsClear := hs.fillSlot k fun _ hl => nomatch hl

theorem State.SweptSlotsClear.cancelGrant {s : State} (hs : s.SweptSlotsClear) (c : CellNo) :
    (s.cancelGrant c).SweptSlotsClear := by
  unfold State.cancelGrant
  split <;> exact hs.of_tables

theorem State.slot_cancelGrant (s : State) (c : CellNo) (k : SlotNo) : (s.cancelGrant c).slot k = s.slot k := by
  unfold State.cancelGrant
  split <;> rfl

theorem State.SweptSlotsClear.emptyCell {s : State} (hs : s.SweptSlotsClear) (c : CellNo) : (s.emptyCell c).SweptSlotsClear :=
  hs.of_tables

theorem State.SweptSlotsClear.readyCell {s : State} (hs : s.SweptSlotsClear) (c : CellNo) (o : Ending) :
    (s.readyCell c o).SweptSlotsClear := hs.of_tables

theorem State.SweptSlotsClear.raise {s : State} (hs : s.SweptSlotsClear) (x : Source) (d : Nat) : (s.raise x d).SweptSlotsClear :=
  hs.of_tables

/-- A grant has found that the sweep does not match it (R99 (c)). -/
theorem State.SweptSlotsClear.grantPass {s : State} (hs : s.SweptSlotsClear) : s.grantPass.SweptSlotsClear := by
  refine s.grantPass_induct State.SweptSlotsClear (fun t c e _ _ k ht _ _ hm => ?_) hs
  obtain ⟨_, _, hsweep, _⟩ := (t.mayGrant_iff c e).1 hm
  have hfilled : (t.setSlotState k (.reserved e.lease c)).SweptSlotsClear := ht.fillSlot k fun l hl => by
    cases hl
    exact hsweep
  exact hfilled.of_tables

theorem State.SweptSlotsClear.passIfReadied {s : State} (hs : s.SweptSlotsClear) (before : State) :
    (before.passIfReadied s).SweptSlotsClear := by
  unfold State.passIfReadied
  split
  · exact hs.grantPass
  · exact hs

theorem State.SweptSlotsClear.unlessReset {s : State} (hs : s.SweptSlotsClear) {f : State → State}
    (h : (f s).SweptSlotsClear) : (s.unlessReset f).SweptSlotsClear := by
  unfold State.unlessReset
  split
  · exact hs
  · exact h

theorem State.SweptSlotsClear.standingChanged {s : State} (hs : s.SweptSlotsClear) (a : AgentNo) (old : Standing) :
    (s.standingChanged a old).SweptSlotsClear := by
  rw [State.standingChanged_frame]
  exact hs.of_tables

theorem State.SweptSlotsClear.updateConduct {s : State} (hs : s.SweptSlotsClear) (a : AgentNo) (r : AgentRecord) :
    (s.updateConduct a r).SweptSlotsClear := by
  rw [State.updateConduct_frame]
  exact hs.of_tables

theorem State.SweptSlotsClear.charge {s : State} (hs : s.SweptSlotsClear) (a : AgentNo) (n : ScoreName) :
    (s.charge a n).SweptSlotsClear := hs.updateConduct a _

theorem State.SweptSlotsClear.credit {s : State} (hs : s.SweptSlotsClear) (a : AgentNo) : (s.credit a).SweptSlotsClear :=
  hs.updateConduct a _

theorem State.SweptSlotsClear.deriveFor {s : State} (hs : s.SweptSlotsClear) (before : State) (as : List AgentNo) :
    (s.deriveFor before as).SweptSlotsClear := by
  induction as generalizing s with
  | nil => exact hs
  | cons a as ih => exact ih (hs.standingChanged a _)

theorem State.SweptSlotsClear.finish {s : State} (hs : s.SweptSlotsClear) (r : ResultCode) (v w : Word) :
    (s.finish r v w).SweptSlotsClear := hs.of_tables

theorem State.SweptSlotsClear.conclude {s : State} (hs : s.SweptSlotsClear) (r : ResultCode) :
    (s.conclude r).SweptSlotsClear := hs.of_tables

/-! ### What an outcome comes to -/

/-- The outcome is a next state in which the slots the sweep has visited are clear. -/
def SweptSlotsClearIn (o : Host.Outcome State Fault Refusal) : Prop := ∃ t, o = .next t ∧ t.SweptSlotsClear

theorem State.SweptSlotsClear.next {s : State} (hs : s.SweptSlotsClear) : SweptSlotsClearIn (.next s) := ⟨s, rfl, hs⟩

theorem State.SweptSlotsClear.nextUnlessReset {s : State} (hs : s.SweptSlotsClear) {f : State → State}
    (h : (f s).SweptSlotsClear) : SweptSlotsClearIn (.next (s.unlessReset f)) := (hs.unlessReset h).next

/-! ### Requests (R71 to R108) -/

theorem State.SweptSlotsClear.takeRequest {s : State} (hs : s.SweptSlotsClear) {kind : Option RequestKind}
    {serve : AgentNo → Word → State × Answer} (h : ∀ a w0, s.Requesting a w0 kind → (serve a w0).1.SweptSlotsClear) :
    SweptSlotsClearIn (.next (s.takeRequest kind serve)) := by
  by_cases hq : ∃ a w0, s.Requesting a w0 kind
  · obtain ⟨a, w0, hq⟩ := hq
    rw [State.takeRequest_of_requesting hq]
    exact ((h a w0 hq).of_tables).next
  · rw [State.takeRequest_of_not fun a w0 hr => hq ⟨a, w0, hr⟩]
    exact hs.of_tables.next

/-- Between them the SWEEPING test and the sweep fence keep an immediate grant from every sweep that would match it (R74, R76). -/
theorem State.not_sweepMatches_of_immediate {s : State} {a : AgentNo} {m : ClaimMode} {r : GranuleRange} {k : SlotNo}
    (hrefuse : ¬ s.SweepRefuses a r) (hk : s.immediate ⟨.agent a, m, r⟩ = .grant k) : ¬ s.SweepMatches a r := by
  rintro (hobstacle | ⟨hstatus, htarget⟩)
  · rw [← s.fencedAgainst_iff a m] at hobstacle
    simp only [State.immediate, hobstacle, if_true] at hk
    split at hk <;> cases hk
  · exact hrefuse ⟨hstatus, .inl htarget⟩

theorem State.SweptSlotsClear.acquireOrWait {s : State} (hs : s.SweptSlotsClear) {e : WaitEntry}
    (hrefuse : ¬ s.SweepRefuses e.agent e.range) (limit : BitVec 16) : (s.acquireOrWait e limit).1.SweptSlotsClear := by
  unfold State.acquireOrWait
  split
  · next k hk =>
    refine hs.fillSlot k fun l hl => ?_
    cases hl
    exact State.not_sweepMatches_of_immediate hrefuse hk
  · next r _ =>
    unfold State.blockedAcquire
    split_ifs
    · cases r <;> exact hs.of_tables
    · exact hs
    · split
      · exact hs.of_tables
      · cases r <;> exact hs.of_tables

theorem State.SweptSlotsClear.serveAcquire {s : State} (hs : s.SweptSlotsClear) {a : AgentNo} {w0 : Word}
    (hr : s.Requesting a w0 (some .acquire)) (q : AcquireFields) : (s.serveAcquire a q).1.SweptSlotsClear := by
  obtain h | ⟨m, hgoes, h⟩ := s.serveAcquire_refused_or_goesOn a q
  · rwa [h]
  · obtain ⟨_, _, _, _, hrefuse, _⟩ := hgoes w0 hr
    rw [h]
    exact hs.acquireOrWait (e := q.entry a m) hrefuse _

/-- A renewal keeps the owner and range of a lease (R38). -/
theorem State.SweptSlotsClear.renewLease {s : State} (hs : s.SweptSlotsClear) {k : SlotNo} {l : AgentLease} {r : Nat}
    (h : (s.slot k).state = .held l r) (n : BitVec 16) : (s.renewLease k (l.withTerm n)).SweptSlotsClear := by
  intro j l' hl' hmatch
  rw [State.renewLease, State.slot_setSlotState, AgentLease.withTerm_eq] at hl'
  split at hl'
  · next hkj =>
    cases hl'
    exact hs j l (by rw [← hkj, h]; rfl) hmatch
  · exact hs j l' hl' hmatch

theorem State.SweptSlotsClear.serveRenew {s : State} (hs : s.SweptSlotsClear) (a : AgentNo) (h : Handle) (n : BitVec 16) :
    (s.serveRenew a h n).1.SweptSlotsClear := by
  unfold State.serveRenew
  split_ifs
  · exact hs
  · exact hs
  · cases hst : (s.slot h.slot).state with
    | held l r =>
      dsimp only
      unfold State.renewHeld
      split
      · exact hs
      · exact hs.renewLease hst n
    | _ => exact hs

theorem State.SweptSlotsClear.serveRelease {s : State} (hs : s.SweptSlotsClear) (a : AgentNo) (h : Handle) :
    (s.serveRelease a h).1.SweptSlotsClear := by
  have hfree := hs.freeSlot h.slot
  unfold State.serveRelease
  split_ifs
  · exact hs
  · exact hs
  · cases (s.slot h.slot).state with
    | held l r => exact (hfree.credit a).grantPass
    | lapsed l r => exact hfree.grantPass
    | revoked l r => exact hfree.grantPass
    | _ => exact hs

theorem State.SweptSlotsClear.servePoll {s : State} (hs : s.SweptSlotsClear) (a : AgentNo) (t : Ticket) :
    (s.servePoll a t).1.SweptSlotsClear := by
  unfold State.servePoll
  split_ifs
  · exact hs
  · exact hs
  · cases (s.cell t.cell).state with
    | granted e left k => exact (hs.collectSlot k).emptyCell _
    | ended e o left => exact hs.emptyCell _
    | _ => exact hs

theorem State.SweptSlotsClear.serveWithdraw {s : State} (hs : s.SweptSlotsClear) (a : AgentNo) (t : Ticket) :
    (s.serveWithdraw a t).1.SweptSlotsClear := by
  unfold State.serveWithdraw
  split_ifs
  · exact hs
  · exact hs
  · cases (s.cell t.cell).state with
    | waiting e r w => exact (hs.emptyCell _).grantPass
    | granted e left k => exact ((hs.freeReserved k).emptyCell _).grantPass
    | ended e o left => exact hs.emptyCell _
    | empty => exact hs

/-! ### The bus, attach and detach (R58 to R67, R120, R121) -/

theorem State.SweptSlotsClear.execFirstRequestWord {s : State} (hs : s.SweptSlotsClear) (w0 : Word) :
    SweptSlotsClearIn (execFirstRequestWord w0 s) := by
  unfold Machine.execFirstRequestWord
  split <;> exact hs.of_tables.next

theorem State.SweptSlotsClear.choose {s : State} (hs : s.SweptSlotsClear) : s.choose.SweptSlotsClear := by
  unfold State.choose
  split
  · exact hs
  · split
    · unfold State.grantBus
      split <;> exact hs.of_tables
    · exact hs

theorem State.SweptSlotsClear.execTenureEnd {s : State} (hs : s.SweptSlotsClear) : SweptSlotsClearIn (execTenureEnd s) := by
  unfold Machine.execTenureEnd
  split <;> exact hs.of_tables.next

theorem State.SweptSlotsClear.execTenureLimitExpiry {s : State} (hs : s.SweptSlotsClear) :
    SweptSlotsClearIn (execTenureLimitExpiry s) := by
  unfold Machine.execTenureLimitExpiry
  split <;> exact hs.of_tables.next

theorem State.SweptSlotsClear.detachedBeforePass {s : State} (hs : s.SweptSlotsClear) (a : AgentNo) :
    (s.detachedBeforePass a).SweptSlotsClear := by
  refine hs.of_moves (fun k => ?_) (by rw [State.detachedBeforePass_frame])
  rw [State.slot_detachedBeforePass]
  split
  · exact .freed _
  · exact .stays _

theorem State.SweptSlotsClear.execDetach {s : State} (hs : s.SweptSlotsClear) (a : AgentNo) :
    SweptSlotsClearIn (execDetach a s) := by
  have hline : (s.lineLowered a).SweptSlotsClear := hs.of_tables
  refine State.SweptSlotsClear.next ?_
  split
  · exact hline.unlessReset (hline.detachedBeforePass a).grantPass
  · exact hline

/-! ### Expiries and time (R18, R40 to R46, R109, R110) -/

theorem State.SweptSlotsClear.lapse {s : State} (hs : s.SweptSlotsClear) {k : SlotNo} {l : AgentLease} {r : Nat}
    (h : (s.slot k).state = .held l r) : (s.lapse k l).SweptSlotsClear := by
  have hslot : (s.setSlotState k (.lapsed l s.holdAmount)).SweptSlotsClear := hs.setSlot (h ▸ .lapsed l r)
  unfold State.lapse State.chargeLapse
  split
  · exact (hslot.charge _ _).raise _ _
  · exact hslot.raise _ _

theorem State.SweptSlotsClear.execTermExpiry {s : State} (hs : s.SweptSlotsClear) (k : SlotNo) :
    SweptSlotsClearIn (execTermExpiry k s) := by
  refine State.SweptSlotsClear.next ?_
  split
  · next l h =>
    unfold State.termRunsOut
    split_ifs
    · exact hs
    · exact hs.renewLease h 0
    · exact (hs.lapse h).passIfReadied s
  · exact hs

theorem State.SweptSlotsClear.execHoldExpiry {s : State} (hs : s.SweptSlotsClear) (k : SlotNo) :
    SweptSlotsClearIn (execHoldExpiry k s) := by
  have hfreed : (if s.frozen then s else (s.freeSlot k).grantPass).SweptSlotsClear := by
    split
    · exact hs
    · exact (hs.freeSlot k).grantPass
  refine State.SweptSlotsClear.next ?_
  split
  · exact hfreed
  · exact hfreed
  · exact hs

theorem State.SweptSlotsClear.execWaitLimitExpiry {s : State} (hs : s.SweptSlotsClear) (c : CellNo) :
    SweptSlotsClearIn (execWaitLimitExpiry c s) := by
  refine State.SweptSlotsClear.next ?_
  split
  · split
    · exact hs
    · exact (hs.readyCell c _).grantPass
  · exact hs

theorem State.SweptSlotsClear.abandonGrant {s : State} (hs : s.SweptSlotsClear) (c : CellNo) (a : AgentNo) (k : SlotNo) :
    (s.abandonGrant c a k).SweptSlotsClear :=
  ((((hs.freeReserved k).emptyCell c).charge a .abandon).raise .ticketAbandoned a.val).grantPass

theorem State.SweptSlotsClear.execCollectionExpiry {s : State} (hs : s.SweptSlotsClear) (c : CellNo) :
    SweptSlotsClearIn (execCollectionExpiry c s) := by
  refine State.SweptSlotsClear.next ?_
  split
  · split
    · exact hs
    · exact hs.abandonGrant c _ _
  · split
    · exact hs
    · exact hs.emptyCell c
  · exact hs

theorem State.SweptSlotsClear.elapseTimers {s : State} (hs : s.SweptSlotsClear) (d : Nat) :
    (s.elapseTimers d).SweptSlotsClear := by
  refine hs.of_moves fun k => ?_
  simp only [State.slot, State.elapseTimers, Fin.getElem_fin, Vector.getElem_map]
  exact .elapsed d _

theorem State.SweptSlotsClear.passMicrosecond {s : State} (hs : s.SweptSlotsClear) : s.passMicrosecond.SweptSlotsClear := by
  have htimers : (if s.frozen then s else s.elapseTimers (unitStep s.unitCode)).SweptSlotsClear := by
    split
    · exact hs
    · exact hs.elapseTimers _
  rw [State.passMicrosecond, State.elapseTenure_frame]
  exact htimers.of_tables

/-! ### The check port (R126, R137) -/

theorem State.SweptSlotsClear.execTrespassCharge {s : State} (hs : s.SweptSlotsClear) :
    SweptSlotsClearIn (execTrespassCharge s) := by
  refine State.SweptSlotsClear.next ?_
  split
  · exact hs
  · next a rest _ =>
    have hqueue : State.SweptSlotsClear { s with charges := rest } := hs.of_tables
    exact ((hqueue.charge a .trespass).passIfReadied s).congr (State.takePresented_sameTables _)

/-! ### Host commands on agents, profiles and records (R20 to R21, R133 to R136, R163 to R182) -/

theorem State.SweptSlotsClear.setAgentCommand {s : State} (hs : s.SweptSlotsClear) : s.setAgentCommand.SweptSlotsClear := by
  have happly (a : AgentNo) : (s.applySetAgent a).SweptSlotsClear := by
    unfold State.applySetAgent
    dsimp only
    split
    · exact (hs.updateConduct a _).grantPass
    · exact (hs.updateConduct a _).passIfReadied s
  unfold State.setAgentCommand
  split
  · exact hs.conclude _
  · split
    · exact hs.conclude _
    · exact (happly _).finish _ _ _

theorem State.SweptSlotsClear.clearAgentCommand {s : State} (hs : s.SweptSlotsClear) : s.clearAgentCommand.SweptSlotsClear := by
  unfold State.clearAgentCommand
  split
  · exact hs.conclude _
  · exact (hs.updateConduct _ _).finish _ _ _

theorem State.SweptSlotsClear.loadProfile {s : State} (hs : s.SweptSlotsClear) : s.loadProfile.SweptSlotsClear := by
  have hwritten : (s.writeProfile (readProfile s.staging)).SweptSlotsClear := hs.of_tables
  unfold State.loadProfile
  split
  · exact hs.conclude _
  · exact ((hwritten.deriveFor s (List.finRange 32)).passIfReadied s).finish _ _ _

theorem State.SweptSlotsClear.readRecord {s : State} (hs : s.SweptSlotsClear) (image : Option (Vector Word 12)) :
    (s.readRecord image).SweptSlotsClear := by
  unfold State.readRecord
  split
  · exact hs.conclude _
  · split <;> exact hs.of_tables

theorem State.SweptSlotsClear.dropSnapshot {s : State} (hs : s.SweptSlotsClear) : s.dropSnapshot.SweptSlotsClear := by
  unfold State.dropSnapshot
  split <;> exact hs.of_tables

/-- A fence is no agent lease (R26). -/
theorem State.SweptSlotsClear.setFence {s : State} (hs : s.SweptSlotsClear) (r : GranuleRange) :
    (s.setFence r).SweptSlotsClear := by
  unfold State.setFence
  split_ifs
  · exact hs.conclude _
  · exact hs.conclude _
  · split
    · exact hs.conclude _
    · next k _ => exact (hs.fillSlot k (x := .fence r) fun _ hl => nomatch hl).finish _ _ _

theorem State.SweptSlotsClear.clearFence {s : State} (hs : s.SweptSlotsClear) (h : Handle) :
    (s.clearFence h).SweptSlotsClear := by
  unfold State.clearFence
  split
  · split
    · exact (hs.freeSlot h.slot).grantPass.conclude _
    · exact hs.conclude _
  · exact hs.conclude _

/-- A RESERVED lease withdrawn, its entry CANCELLED (R112). -/
theorem State.SweptSlotsClear.withdrawGrant {s : State} (hs : s.SweptSlotsClear) (k : SlotNo) (c : CellNo) :
    ((s.freeSlot k).cancelGrant c).SweptSlotsClear := (hs.freeSlot k).cancelGrant c

theorem State.SweptSlotsClear.revokePair {s : State} (hs : s.SweptSlotsClear) (h : Handle) :
    (s.revokePair h).SweptSlotsClear := by
  unfold State.revokePair
  split
  · cases (s.slot h.slot).state with
    | held l r => exact (hs.revokeLease _ l).grantPass.finish _ _ _
    | lapsed l r => exact (hs.revokeLease _ l).grantPass.finish _ _ _
    | reserved l c => exact (hs.withdrawGrant _ c).grantPass.finish _ _ _
    | _ => exact hs.conclude _
  · exact hs.conclude _

theorem State.SweptSlotsClear.cancelTicket {s : State} (hs : s.SweptSlotsClear) (t : Ticket) :
    (s.cancelTicket t).SweptSlotsClear := by
  unfold State.cancelTicket
  split
  · exact hs.conclude _
  · split
    · exact (hs.readyCell _ _).grantPass.finish _ _ _
    · exact hs.conclude _
    · exact hs.conclude _
    · exact hs.conclude _

theorem State.SweptSlotsClear.lockCommand {s : State} (hs : s.SweptSlotsClear) :
    (if s.lock then s.conclude .ignored else { s with lock := true }.conclude .done).SweptSlotsClear := by
  split <;> exact hs.of_tables

/-! ### The start and the end of a sweep (R149, R151 to R158, R182) -/

theorem State.SweptSlotsClear.startSweep {s : State} (hs : s.SweptSlotsClear) : s.startSweep.SweptSlotsClear := by
  unfold State.startSweep
  split
  · exact hs.conclude _
  · split
    · exact hs.conclude _
    · next k _ =>
      have hbegun : (State.readyWhere { s with sweep := ⟨.inProgress, some k, 0, 0, 9⟩ } k.cancels .cancelled).SweptSlotsClear :=
        State.sweptSlotsClear_of_nextSlot rfl
      exact (hbegun.passIfReadied s).finish _ _ _

theorem State.sweptSlotsClear_endSweep (s : State) {st : SweepStatus} (h : st ≠ .inProgress) : (s.endSweep st).SweptSlotsClear :=
  State.sweptSlotsClear_of_not_inProgress h

theorem State.SweptSlotsClear.abortSweep {s : State} (hs : s.SweptSlotsClear) : s.abortSweep.SweptSlotsClear := by
  unfold State.abortSweep
  split
  · exact (s.sweptSlotsClear_endSweep (st := .aborted) nofun).grantPass.conclude _
  · exact hs.conclude _

theorem SweepRecord.interruptedByClear_status_ne (r : SweepRecord) : r.interruptedByClear.status ≠ .inProgress := by
  unfold SweepRecord.interruptedByClear
  split
  · nofun
  · assumption

theorem State.sweptSlotsClear_cleared (s : State) : s.cleared.SweptSlotsClear :=
  State.sweptSlotsClear_of_not_inProgress s.sweep.interruptedByClear_status_ne

/-! ### Visits (R154 to R157) -/

theorem State.SweptSlotsClear.visitAction {s : State} (hs : s.SweptSlotsClear) (k : SlotNo) :
    (s.visitAction k).1.SweptSlotsClear := by
  unfold State.visitAction
  cases (s.slot k).state with
  | held l r | lapsed l r =>
    dsimp only
    split
    · exact hs.revokeLease k l
    · exact hs
  | reserved l c =>
    dsimp only
    split
    · exact hs.withdrawGrant k c
    · exact hs
  | _ => exact hs

/-- The action of a visit leaves no lease in its slot that the sweep matches (R155). -/
theorem State.visitAction_clears (s : State) (k : SlotNo) {l : AgentLease}
    (hl : ((s.visitAction k).1.slot k).state.holding? = some l) : s.sweep.matchesLease l = false := by
  unfold State.visitAction at hl
  cases hst : (s.slot k).state with
  | held l' r | lapsed l' r =>
    simp only [hst] at hl
    split at hl
    · rw [State.revokeLease, State.slot_setSlotState, if_pos rfl] at hl
      cases hl
    · next hunmatched =>
      rw [hst] at hl
      cases hl
      exact Bool.eq_false_of_not_eq_true hunmatched
  | reserved l' c =>
    simp only [hst] at hl
    split at hl
    · rw [State.slot_cancelGrant, State.slot_freeSlot, if_pos rfl, LeaseSlot.state_freed] at hl
      cases hl
    · next hunmatched =>
      rw [hst] at hl
      cases hl
      exact Bool.eq_false_of_not_eq_true hunmatched
  | _ =>
    simp only [hst] at hl
    cases hl

/-- The sweep passes the slot it has visited, which holds no lease it matches (R155, R159). -/
theorem State.SweptSlotsClear.advanced {s : State} (hs : s.SweptSlotsClear) {k : SlotNo} (hk : s.sweep.nextSlot = k.val)
    (hclear : ∀ l, (s.slot k).state.holding? = some l → s.sweep.matchesLease l = false) (revoked : Nat) :
    State.SweptSlotsClear { s with sweep := s.sweep.advanced (k.val + 1) revoked } := by
  intro j l hl hmatch
  have hmatch' : s.sweep.matchesLease l = true := hmatch
  have hjk : j ≠ k := by
    rintro rfl
    exact absurd hmatch' (Bool.eq_false_iff.1 (hclear l hl))
  have hle : k.val ≤ j.val := hk ▸ hs j l hl hmatch'
  exact Nat.lt_of_le_of_ne hle fun h => hjk (Fin.ext h.symm)

theorem State.SweptSlotsClear.visitSlot {s : State} (hs : s.SweptSlotsClear) {k : SlotNo} (hk : s.sweep.nextSlot = k.val) :
    (s.visitSlot k).SweptSlotsClear := by
  have hsweep := (changes_visitAction s k).2.1
  have hadvanced := (hs.visitAction k).advanced (hsweep ▸ hk) (fun l hl => hsweep ▸ s.visitAction_clears k hl)
    (s.visitAction k).2.2
  unfold State.visitSlot
  dsimp only
  split_ifs
  · exact (State.sweptSlotsClear_endSweep _ (st := .completed) nofun).grantPass
  · exact hadvanced.grantPass
  · exact hadvanced

theorem State.SweptSlotsClear.execVisit {s : State} (hs : s.SweptSlotsClear) : SweptSlotsClearIn (execVisit s) := by
  refine State.SweptSlotsClear.next ?_
  split_ifs
  · exact hs.visitSlot rfl
  · exact hs
  · exact hs

/-! ### Every row -/

theorem State.SweptSlotsClear.writeCommandWord {s : State} (hs : s.SweptSlotsClear) (code : BitVec 8) :
    SweptSlotsClearIn (writeCommandWord code s) := by
  unfold Machine.writeCommandWord
  split
  · exact hs.nextUnlessReset hs.of_tables
  · exact hs.nextUnlessReset hs.of_tables
  · exact hs.nextUnlessReset hs.setAgentCommand
  · exact hs.nextUnlessReset hs.clearAgentCommand
  · exact hs.nextUnlessReset hs.startSweep
  · exact hs.nextUnlessReset hs.abortSweep
  · exact hs.nextUnlessReset hs.loadProfile
  · exact hs.nextUnlessReset hs.lockCommand
  · exact hs.nextUnlessReset (s.sweptSlotsClear_cleared.grantPass.conclude _)
  · exact hs.nextUnlessReset (hs.readRecord _)
  · exact hs.nextUnlessReset (hs.readRecord _)
  · exact hs.nextUnlessReset (hs.readRecord _)
  · exact hs.nextUnlessReset (hs.readRecord _)
  · exact hs.nextUnlessReset hs.dropSnapshot
  · exact hs.nextUnlessReset (hs.setFence _)
  · exact hs.nextUnlessReset (hs.clearFence _)
  · exact hs.nextUnlessReset (hs.revokePair _)
  · exact hs.nextUnlessReset (hs.cancelTicket _)
  · exact hs.nextUnlessReset (hs.conclude _)

theorem State.SweptSlotsClear.execRegisterWrite {s : State} (hs : s.SweptSlotsClear) (addr : BitVec 6) (data : Word) :
    SweptSlotsClearIn (execRegisterWrite addr data s) := by
  unfold Machine.execRegisterWrite
  split
  · exact hs.writeCommandWord _
  · exact hs.nextUnlessReset hs.of_tables
  · exact hs.nextUnlessReset hs.of_tables
  · exact hs.nextUnlessReset hs.of_tables
  · refine hs.nextUnlessReset ?_
    unfold State.storeWord
    split_ifs <;> exact hs.of_tables

theorem State.sweptSlotsClear_poweredOn (s : State) (g : Bool) (n : BitVec 2) (w : Word) :
    (s.poweredOn g n w).SweptSlotsClear := State.sweptSlotsClear_of_not_inProgress nofun

theorem State.sweptSlotsClear_resetAsserted (s : State) : s.resetAsserted.SweptSlotsClear :=
  State.sweptSlotsClear_of_not_inProgress nofun

theorem State.SweptSlotsClear.exec {s : State} (hs : s.SweptSlotsClear) (i : Instr) : SweptSlotsClearIn (exec i s) := by
  have command {n : Nat} (hi : i.commandCode = some n) : SweptSlotsClearIn (Machine.exec i s) :=
    exec_eq_writeCommandWord hi s ▸ hs.writeCommandWord _
  cases i with
  | acquire w1 w2 w3 => exact hs.takeRequest fun _ _ hr => hs.serveAcquire hr _
  | renew w1 w2 w3 => exact hs.takeRequest fun _ _ _ => hs.serveRenew _ _ _
  | release w1 w2 w3 => exact hs.takeRequest fun _ _ _ => hs.serveRelease _ _
  | poll w1 w2 w3 => exact hs.takeRequest fun _ _ _ => hs.servePoll _ _
  | withdraw w1 w2 w3 => exact hs.takeRequest fun _ _ _ => hs.serveWithdraw _ _
  | unknownRequest w1 w2 w3 => exact hs.takeRequest fun _ _ _ => hs
  | arbiterChoice req =>
    have hreq : State.SweptSlotsClear { s with req := req } := hs.of_tables
    exact hreq.nextUnlessReset hreq.choose
  | tenureEnd => exact hs.execTenureEnd
  | tenureLimitExpiry => exact hs.execTenureLimitExpiry
  | attach a => exact hs.of_tables.next
  | detach a => exact hs.execDetach a
  | powerOn g n l => exact (s.sweptSlotsClear_poweredOn g n l).next
  | termExpiry k => exact hs.execTermExpiry k
  | holdExpiry k => exact hs.execHoldExpiry k
  | waitLimitExpiry c => exact hs.execWaitLimitExpiry c
  | collectionExpiry c => exact hs.execCollectionExpiry c
  | lookup a addr kind =>
    have hheld : State.SweptSlotsClear { s with heldLookups := s.heldLookups ++ [⟨a, addr, kind⟩] } := hs.of_tables
    exact (hheld.congr (State.presentNext_sameTables _)).next
  | trespassCharge => exact hs.execTrespassCharge
  | visit => exact hs.execVisit
  | unknownCommand code => exact hs.writeCommandWord code
  | closingRead => exact hs.of_tables.next
  | enableWrite data => exact hs.nextUnlessReset hs.of_tables
  | globalEnableWrite on => exact hs.nextUnlessReset hs.of_tables
  | elevateWrite field => exact hs.nextUnlessReset hs.of_tables
  | acknowledge data => exact hs.nextUnlessReset hs.of_tables
  | registerWrite addr data => exact hs.execRegisterWrite addr data
  | firstRequestWord w0 => exact hs.execFirstRequestWord w0
  | resetHeld => exact (s.sweptSlotsClear_resetAsserted.congr (State.takePresented_sameTables _)).next
  | _ => exact command rfl

theorem State.SweptSlotsClear.tick {s : State} (hs : s.SweptSlotsClear) : s.tick.SweptSlotsClear := by
  have hpolled := hs.congr s.pollCheckPort_sameTables
  exact hpolled.unlessReset hpolled.passMicrosecond

/-- Settles O56: a lease that the sweep matches is never made while it runs (R74, R76, R99), and the visit that passes a slot leaves none
in it (R155). -/
theorem stepKeepsSweptSlotsClear : Obligations.StepKeepsSweptSlotsClear := by
  intro s t hs h
  unfold step at h
  split at h
  · cases h
    exact hs.tick
  · next i rest _ =>
    have hrest : State.SweptSlotsClear { s with pending := rest } := hs.of_tables
    obtain ⟨u, hu, hkept⟩ := hrest.exec i
    cases hu.symm.trans h
    exact hkept

end Sys2Proof.Machine
end

section
/-! SUPPORT. START_SWEEP and ABORT_SWEEP: the parameters, the entries cancelled and their number; and the record after a visit (R148, R151,
R152, R156, R158, R163). -/

namespace Sys2Proof.Machine

/-! ### The record after a visit (R155 to R157) -/

@[simp] theorem State.grantPass_sweep (s : State) : s.grantPass.sweep = s.sweep := by rw [State.grantPass_frame]

/-- A visit writes the next slot and the share that remains, the visit of slot 127 as any other (R155, R156). -/
theorem State.sweep_visitSlot (s : State) (k : SlotNo) :
    (s.visitSlot k).sweep.nextSlot = k.val + 1 ∧ (s.visitSlot k).sweep.tenths = tenthsAfter (k.val + 1) := by
  unfold State.visitSlot
  dsimp only
  split_ifs
  · rw [State.grantPass_sweep]
    exact ⟨rfl, rfl⟩
  · rw [State.grantPass_sweep]
    exact ⟨rfl, rfl⟩
  · exact ⟨rfl, rfl⟩

/-- The table of R156. -/
theorem tenthsAfter_table (n : Nat) :
    (n ≤ 12 → tenthsAfter n = 9) ∧ (13 ≤ n → n ≤ 25 → tenthsAfter n = 8) ∧ (26 ≤ n → n ≤ 38 → tenthsAfter n = 7) ∧
      (39 ≤ n → n ≤ 51 → tenthsAfter n = 6) ∧ (52 ≤ n → n ≤ 64 → tenthsAfter n = 5) ∧
      (65 ≤ n → n ≤ 76 → tenthsAfter n = 4) ∧ (77 ≤ n → n ≤ 89 → tenthsAfter n = 3) ∧
      (90 ≤ n → n ≤ 102 → tenthsAfter n = 2) ∧ (103 ≤ n → n ≤ 115 → tenthsAfter n = 1) ∧
      (116 ≤ n → n ≤ 128 → tenthsAfter n = 0) := by
  unfold tenthsAfter
  omega

/-- Settles O38. -/
theorem tenthsRemainingAfterVisit : Obligations.TenthsRemainingAfterVisit := by
  intro s hs hlt
  obtain ⟨hnext, htenths⟩ := s.sweep_visitSlot ⟨s.sweep.nextSlot, hlt⟩
  refine ⟨_, _, execVisit_of_inProgress hs rfl, rfl, hnext, htenths, ?_⟩
  rw [htenths]
  exact tenthsAfter_table _

/-! ### The entries a start cancels (R152) -/

theorem SweepKind.cancels_agent_iff (a : AgentNo) (e : WaitEntry) : (SweepKind.agent a).cancels e = true ↔ e.agent = a :=
  decide_eq_true_iff

theorem SweepKind.cancels_range_iff (r : GranuleRange) (e : WaitEntry) :
    (SweepKind.range r true).cancels e = true ↔ r.first ≤ e.range.last ∧ e.range.first ≤ r.last := by
  simp [SweepKind.cancels, GranuleRange.intersects]

/-- The number of WAITING entries that satisfy a test is the number of their cells. -/
theorem State.countWaiting_eq (s : State) (p : WaitEntry → Bool) :
    s.countWaiting p =
      ((List.finRange 64).filter fun c => decide (∃ e ∈ (s.cell c).state.waiting?, p e = true)).length := by
  have hcells : s.cells.toList = (List.finRange 64).map s.cell :=
    List.ext_getElem (by simp) fun i _ _ => by simp [State.cell]
  rw [State.countWaiting, hcells, List.countP_map, List.countP_eq_length_filter]
  refine congrArg _ (List.filter_congr fun c _ => ?_)
  rw [Bool.eq_iff_iff, decide_eq_true_iff]
  exact Option.any_eq_true _ _

theorem State.countWaiting_eq_zero_iff (s : State) (p : WaitEntry → Bool) :
    s.countWaiting p = 0 ↔ ∀ c, ∀ e ∈ (s.cell c).state.waiting?, p e = false := by
  simp [State.countWaiting_eq]

/-! ### The parameters of START_SWEEP (R151, R189) -/

theorem numberOf_eq_some_iff {n : Nat} (w : Word) (x : Fin n) : numberOf n w = some x ↔ w.toNat = x.val := by
  unfold numberOf
  split
  · rw [Option.some_inj, Fin.ext_iff]
  · next h => exact ⟨nofun, fun heq : w.toNat = x.val => absurd (heq ▸ x.isLt) h⟩

/-- The parameters name a sweep exactly when kind 1 comes with a well-formed range, or kind 2 with an agent that has a port (R151). -/
theorem State.sweepParams_eq_some_iff (s : State) (x : SweepKind) :
    s.sweepParams = some x ↔
      s.params[0].extractLsb' 0 2 = 1 ∧ s.params[1] ≤ s.params[2] ∧ s.params[2] ≤ s.largestGranule ∧
          x = .range ⟨s.params[1], s.params[2]⟩ (s.params[0].getLsbD 8) ∨
        s.params[0].extractLsb' 0 2 = 2 ∧ ∃ a : AgentNo, s.params[1].toNat = a.val ∧ a.val < s.portCount ∧ x = .agent a := by
  unfold State.sweepParams
  split
  · next h =>
    have hkind : s.params[0].extractLsb' 0 2 = 1 := BitVec.eq_of_toNat_eq h
    simp [hkind, GranuleRange.wellFormed, and_assoc, eq_comm (a := x)]
  · next h =>
    have hkind : s.params[0].extractLsb' 0 2 = 2 := BitVec.eq_of_toNat_eq h
    simp only [← numberOf_eq_some_iff, hkind]
    cases numberOf 32 s.params[1] with
    | none => simp
    | some a => simp [eq_comm (a := x)]
  · next h1 h2 =>
    have hkind1 : s.params[0].extractLsb' 0 2 ≠ 1 := fun h => h1 (congrArg BitVec.toNat h)
    have hkind2 : s.params[0].extractLsb' 0 2 ≠ 2 := fun h => h2 (congrArg BitVec.toNat h)
    exact ⟨nofun, fun h => h.elim (fun h => absurd h.1 hkind1) fun h => absurd h.1 hkind2⟩

/-! ### The record and the cells a start writes (R148, R152) -/

/-- The start of a sweep before its grant pass (R152). -/
def State.sweepBegun (s : State) (x : SweepKind) : State :=
  State.readyWhere { s with sweep := ⟨.inProgress, some x, 0, 0, 9⟩ } x.cancels .cancelled

theorem State.beginSweep_eq (s : State) (x : SweepKind) : s.beginSweep x = s.passIfReadied (s.sweepBegun x) := rfl

theorem State.cell_sweepBegun (s : State) (x : SweepKind) (c : CellNo) :
    (s.sweepBegun x).cell c = (s.cell c).readied x.cancels .cancelled s.collectAmount :=
  State.cell_readyWhere { s with sweep := ⟨.inProgress, some x, 0, 0, 9⟩ } x.cancels .cancelled c

theorem State.cell_sweepBegun_of_cancels {s : State} {x : SweepKind} {c : CellNo} {e : WaitEntry} {r : Reason} {left : Option Nat}
    (hc : (s.cell c).state = .waiting e r left) (he : x.cancels e = true) :
    (s.sweepBegun x).cell c = ⟨(s.cell c).generation, .ended e .cancelled (s.collectWindow.toNat * 1000)⟩ := by
  simp only [State.cell_sweepBegun, WaitCell.readied, hc, he, if_true]
  rfl

theorem State.cell_sweepBegun_of_not {s : State} {x : SweepKind} {c : CellNo}
    (h : ∀ e ∈ (s.cell c).state.waiting?, x.cancels e = false) : (s.sweepBegun x).cell c = s.cell c := by
  rw [State.cell_sweepBegun]
  obtain heq | ⟨e, r, w, hc, hcancels, _⟩ := (s.cell c).readied_eq x.cancels .cancelled s.collectAmount
  · exact heq
  · exact absurd hcancels (Bool.eq_false_iff.1 (h e (by rw [hc]; rfl)))

/-- A start makes some entry leave WAITING exactly when it cancels one (R98, R152). -/
theorem State.someLeftWaiting_sweepBegun_iff (s : State) (x : SweepKind) :
    someLeftWaiting s (s.sweepBegun x) = true ↔ s.countWaiting x.cancels ≠ 0 := by
  rw [ne_eq, State.countWaiting_eq_zero_iff, not_forall]
  simp only [someLeftWaiting, List.any_eq_true, List.mem_finRange, true_and, State.cell_sweepBegun, WaitCell.waiting_readied]
  refine exists_congr fun c => ?_
  cases (s.cell c).state.waiting? with
  | none => simp
  | some e => simp [Option.filter]

/-! ### START_SWEEP and ABORT_SWEEP (R151, R152, R158) -/

theorem State.startSweep_of_none {s : State} (hs : s.sweep.status ≠ .inProgress) (h : ∀ x, s.sweepParams ≠ some x) :
    s.startSweep = s.conclude .badArgument := by
  rw [State.startSweep, if_neg hs, Option.eq_none_iff_forall_ne_some.2 h]

theorem State.startSweep_of_some {s : State} (hs : s.sweep.status ≠ .inProgress) {x : SweepKind} (h : s.sweepParams = some x) :
    s.startSweep = (s.passIfReadied (s.sweepBegun x)).finish .done (wordOf (s.countWaiting x.cancels)) 0 := by
  rw [State.startSweep, if_neg hs, h, ← State.beginSweep_eq]

/-- Settles O36. -/
theorem sweepsStartAndAbort : Obligations.SweepsStartAndAbort := by
  refine ⟨fun e => ⟨fun a => SweepKind.cancels_agent_iff a e, fun r => SweepKind.cancels_range_iff r e, fun _ => rfl⟩,
    State.countWaiting_eq, ?_⟩
  rintro s _ _ _ hr rfl rfl rfl
  have hstart : exec .startSweep s = .next s.startSweep := next_unlessReset hr _
  have habort : exec .abortSweep s = .next s.abortSweep := next_unlessReset hr _
  rw [hstart, habort]
  refine ⟨fun hs => ⟨congrArg _ (if_pos hs), congrArg _ (if_pos hs)⟩, fun hs => ⟨congrArg _ (if_neg hs), ?_, ?_, ?_, ?_⟩⟩
  · intro h1 h2
    refine congrArg _ (State.startSweep_of_none hs fun x hx => ?_)
    obtain ⟨h, _⟩ | ⟨h, _⟩ := (s.sweepParams_eq_some_iff x).1 hx
    · exact h1 h
    · exact h2 h
  · intro h1 hrange
    refine congrArg _ (State.startSweep_of_none hs fun x hx => ?_)
    obtain ⟨_, hfirst, hlast, _⟩ | ⟨h, _⟩ := (s.sweepParams_eq_some_iff x).1 hx
    · exact hrange ⟨hfirst, hlast⟩
    · exact absurd (h1.symm.trans h) (by decide)
  · intro h2 hcount
    refine congrArg _ (State.startSweep_of_none hs fun x hx => ?_)
    obtain ⟨h, _⟩ | ⟨_, a, ha, hport, _⟩ := (s.sweepParams_eq_some_iff x).1 hx
    · exact absurd (h.symm.trans h2) (by decide)
    · exact absurd hport (Nat.not_lt.2 (ha ▸ hcount))
  · intro x hx
    rw [State.startSweep_of_some hs ((s.sweepParams_eq_some_iff x).2 hx)]
    refine ⟨s.sweepBegun x, rfl, fun c e r left hc he => State.cell_sweepBegun_of_cancels hc he,
      fun c hc => State.cell_sweepBegun_of_not hc, fun hzero => ?_, fun hsome => ?_⟩
    · have hnone := mt (s.someLeftWaiting_sweepBegun_iff x).1 (not_not.2 hzero)
      rw [State.passIfReadied, if_neg hnone, hzero]
      rfl
    · rw [State.passIfReadied, if_pos ((s.someLeftWaiting_sweepBegun_iff x).2 hsome)]
      rfl

end Sys2Proof.Machine
end

section
/-! SUPPORT. The management window: what each group of words reads, what a write of each does (R163 to R166, R177, R184, R185, R189, 13.2,
13.4). -/

namespace Sys2Proof.Machine

/-! ### What the words read, group by group (13.4) -/

theorem State.windowRead_eq {s : State} (hr : s.resetHeld = false) (addr : BitVec 6) :
    s.windowRead addr = s.windowWord addr.toNat := by
  simp [State.windowRead, hr]

theorem State.windowWord_param (s : State) (i : Fin 6) : s.windowWord (2 + i.val) = s.params[i] := by
  have hi := i.isLt
  rw [State.windowWord, if_neg (by omega), if_pos (by omega), Nat.add_sub_cancel_left]
  simp [List.getD_eq_getElem?_getD]

theorem State.windowWord_snapshot (s : State) {n : Nat} (h : 16 ≤ n ∧ n ≤ 27) : s.windowWord n = s.snapshotWord (n - 16) := by
  rw [State.windowWord, if_neg (by omega), if_neg (by omega), if_neg (by omega), if_pos h]

theorem State.windowWord_staging (s : State) (i : Fin 24) : s.windowWord (32 + i.val) = s.stagingWord i.val := by
  have hi := i.isLt
  rw [State.windowWord, if_neg (by omega), if_neg (by omega), if_neg (by omega), if_neg (by omega), if_pos (by omega),
    Nat.add_sub_cancel_left]

/-- A word the table of 13.4 does not list reads 0 (R189). -/
theorem State.windowWord_unlisted (s : State) {n : Nat}
    (h : n = 1 ∨ (9 ≤ n ∧ n ≤ 15) ∨ (28 ≤ n ∧ n ≤ 31) ∨ n = 60 ∨ n = 63) : s.windowWord n = 0 := by
  unfold State.windowWord
  iterate 11 rw [if_neg (by omega)]

/-! ### Words made of bits and fields -/

theorem getLsbD_foldl_twoPow (f : Fin 8 → Bool) (ns : List (Fin 8)) (w : Word) (i : Nat) :
    (ns.foldl (fun w n => if f n then w ||| BitVec.twoPow 32 n.val else w) w).getLsbD i = true ↔
      w.getLsbD i = true ∨ ∃ n ∈ ns, n.val = i ∧ f n = true := by
  induction ns generalizing w with
  | nil => simp
  | cons n ns ih =>
    have hn : n.val < 32 := by omega
    rw [List.foldl_cons, ih]
    cases hf : f n <;> simp [hf, hn, BitVec.getLsbD_twoPow, or_assoc]

theorem getLsbD_bitsOf (f : Fin 8 → Bool) (i : Nat) : (bitsOf f).getLsbD i = true ↔ ∃ n : Fin 8, n.val = i ∧ f n = true := by
  simp [bitsOf, getLsbD_foldl_twoPow]

theorem ResultCode.code_lt (r : ResultCode) : r.code < 256 := by
  cases r <;> decide

theorem sourceCode_lt (x : Option Source) : sourceCode x < 16 := by
  cases x with
  | none => decide
  | some x => exact x.number.isLt.trans (by decide)

theorem boolCode_mul (b : Bool) (n : Nat) : boolCode b * n = if b then n else 0 := by
  cases b <;> simp [boolCode]

/-- The fields of the status word above bit 0 (R165, 13.4). -/
def State.statusFields (s : State) : List ImageField :=
  [⟨0, 1, 2, some s.unitCode.toNat⟩, ⟨0, 4, 3, some s.sweep.status.code⟩, ⟨0, 8, 4, some s.sweep.tenths⟩,
    ⟨0, 12, 1, some (boolCode s.lock)⟩, ⟨0, 13, 1, some (boolCode s.snapshot.isSome)⟩]

theorem State.statusWord_eq (s : State) :
    s.statusWord = s.statusFields.foldl (fun w f => w ||| f.placed) (placeField (boolCode s.frozen) 0 1) := rfl

theorem State.statusFields_fit {s : State} (h : s.sweep.tenths ≤ 9) : ∀ f ∈ s.statusFields, f.Fits := by
  have hunit := s.unitCode.isLt
  have hstatus := s.sweep.status.code_lt
  have hlock := boolCode_lt s.lock
  have hheld := boolCode_lt s.snapshot.isSome
  simp only [State.statusFields, List.forall_mem_cons, ImageField.Fits, Option.mem_some_iff, forall_eq', List.not_mem_nil,
    IsEmpty.forall_iff, implies_true, and_true]
  omega

theorem State.statusWord_toNat {s : State} (h : s.sweep.tenths ≤ 9) :
    s.statusWord.toNat =
      (if s.frozen then 1 else 0) + s.unitCode.toNat * 2 + s.sweep.status.code * 16 + s.sweep.tenths * 256 +
        (if s.lock then 4096 else 0) + (if s.snapshot.isSome then 8192 else 0) := by
  have hfrozen : (placeField (boolCode s.frozen) 0 1).toNat = boolCode s.frozen * 1 := placeField_toNat (boolCode_lt _) (by decide)
  have hlow : (placeField (boolCode s.frozen) 0 1).toNat < 2 ^ 1 := by
    have := boolCode_lt s.frozen
    omega
  rw [State.statusWord_eq, foldl_placed_toNat _ _ 1 hlow (State.statusFields_fit h) rfl, hfrozen]
  simp only [State.statusFields, fieldSum, Option.getD_some, boolCode_mul, Nat.reducePow]
  omega

/-- The control word: the global enable in bit 0, the ELEVATE field in bits 7..4 (13.4). -/
theorem State.controlWord_toNat (s : State) :
    (s.windowWord 58).toNat = (if s.globalEnable then 1 else 0) + sourceCode s.elevate * 16 := by
  have hon : (placeField (boolCode s.globalEnable) 0 1).toNat = boolCode s.globalEnable * 1 :=
    placeField_toNat (boolCode_lt _) (by decide)
  have hbit := boolCode_lt s.globalEnable
  change (placeField (boolCode s.globalEnable) 0 1 ||| placeField (sourceCode s.elevate) 4 4).toNat = _
  rw [or_placeField_toNat (by omega) (sourceCode_lt _) (by decide), hon, boolCode_mul, show 2 ^ 4 = 16 from rfl]

theorem State.topWord_toNat (s : State) : (s.windowWord 59).toNat = sourceCode s.top :=
  (placeField_toNat (sourceCode_lt _) (by decide)).trans (Nat.mul_one _)

/-- Four detail bytes, the first lowest (13.4). -/
def detailFields (d : Fin 4 → BitVec 8) : List ImageField :=
  [⟨0, 0, 8, some (d 0).toNat⟩, ⟨0, 8, 8, some (d 1).toNat⟩, ⟨0, 16, 8, some (d 2).toNat⟩, ⟨0, 24, 8, some (d 3).toNat⟩]

theorem State.detailWord_low (s : State) :
    s.detailWord 0 = (detailFields fun n => (s.source (n.castAdd 4)).detail).foldl (fun w f => w ||| f.placed) 0 := rfl

theorem State.detailWord_high (s : State) :
    s.detailWord 4 = (detailFields fun n => (s.source (n.natAdd 4)).detail).foldl (fun w f => w ||| f.placed) 0 := rfl

theorem detailFields_toNat (d : Fin 4 → BitVec 8) :
    ((detailFields d).foldl (fun w f => w ||| f.placed) (0 : Word)).toNat =
      (d 0).toNat + (d 1).toNat * 256 + (d 2).toNat * 65536 + (d 3).toNat * 16777216 := by
  have hfits : ∀ f ∈ detailFields d, f.Fits := by
    simp only [detailFields, List.forall_mem_cons, ImageField.Fits, Option.mem_some_iff, forall_eq', List.not_mem_nil,
      IsEmpty.forall_iff, implies_true, and_true]
    exact ⟨(d 0).isLt, (d 1).isLt, (d 2).isLt, (d 3).isLt⟩
  rw [foldl_placed_toNat _ 0 0 (by decide) hfits rfl, show (0 : Word).toNat = 0 from rfl]
  simp only [detailFields, fieldSum, Option.getD_some, Nat.reducePow]
  omega

/-- Two profile words, low half first, make up the word they are cut from (13.4). -/
theorem joinHalves_extract (data : Word) : joinHalves (data.extractLsb' 0 16) (data.extractLsb' 16 16) = data :=
  (BitVec.extractLsb'_append_extractLsb'_eq_extractLsb' rfl).trans BitVec.extractLsb'_eq_self

/-! ### The command word (R163, 13.2) -/

theorem writeCommandWord_of_unknown {code : BitVec 8} (h : code = 0 ∨ 19 ≤ code.toNat) (s : State) :
    writeCommandWord code s = .next (s.unlessReset fun x => x.conclude .badArgument) := by
  have hcode : code.toNat = 0 ∨ 19 ≤ code.toNat := h.imp_left (congrArg BitVec.toNat)
  unfold writeCommandWord
  split
  case h_19 => rfl
  all_goals omega

/-! ### The other words -/

/-- An ELEVATE field that is a source's number names that source (R189). -/
theorem sourceOf_of_number {x : Source} {field : BitVec 4} (h : x.number.val = field.toNat) : sourceOf field = some x := by
  rw [sourceOf, ← h]
  cases x <;> rfl

theorem sourceOf_of_large {field : BitVec 4} (h : 8 ≤ field.toNat) : sourceOf field = none := List.getElem?_eq_none h

theorem hasOwnWriteBehaviour_eq_false_iff (addr : BitVec 6) :
    hasOwnWriteBehaviour addr = false ↔ addr.toNat ≠ 1 ∧ addr.toNat ≠ 57 ∧ addr.toNat ≠ 58 ∧ addr.toNat ≠ 60 := by
  simp [hasOwnWriteBehaviour, ← BitVec.toNat_inj, and_assoc]

/-- A word without a behaviour of its own is stored, or ignored (R189). -/
theorem execRegisterWrite_of_plain {addr : BitVec 6} (h : hasOwnWriteBehaviour addr = false) (data : Word) (s : State) :
    execRegisterWrite addr data s = .next (s.unlessReset fun x => x.storeWord addr.toNat data) := by
  obtain ⟨h1, h57, h58, h60⟩ := (hasOwnWriteBehaviour_eq_false_iff addr).1 h
  unfold execRegisterWrite
  split
  · next hn => exact absurd hn h1
  · next hn => exact absurd hn h57
  · next hn => exact absurd hn h58
  · next hn => exact absurd hn h60
  · rfl

theorem setIfInBounds_eq_set {α : Type} {n : Nat} (xs : Vector α n) {i : Nat} (h : i < n) (x : α) :
    xs.setIfInBounds i x = xs.set i x := by
  ext j hj
  rw [Vector.getElem_setIfInBounds, Vector.getElem_set]

theorem State.storeWord_param (s : State) (i : Fin 6) (data : Word) :
    s.storeWord (2 + i.val) data = { s with params := s.params.set i data } := by
  have hi := i.isLt
  rw [State.storeWord, if_pos (by omega), Nat.add_sub_cancel_left, setIfInBounds_eq_set _ hi]

/-- The staging area with profile words 2i and 2i + 1 written (R177, 13.4). -/
def State.stagingWritten (s : State) (i : Fin 24) (data : Word) : Vector Half 48 :=
  (s.staging.set (2 * i.val) (data.extractLsb' 0 16)).set (2 * i.val + 1) (data.extractLsb' 16 16)

theorem State.storeWord_staging (s : State) (i : Fin 24) (data : Word) :
    s.storeWord (32 + i.val) data = { s with staging := s.stagingWritten i data } := by
  have hi := i.isLt
  rw [State.storeWord, if_neg (by omega), if_pos (by omega), Nat.add_sub_cancel_left]
  simp only [setIfInBounds_eq_set _ (show 2 * i.val < 48 by omega), setIfInBounds_eq_set _ (show 2 * i.val + 1 < 48 by omega),
    State.stagingWritten]

theorem State.storeWord_other (s : State) {n : Nat} (data : Word) (hparam : ¬ (2 ≤ n ∧ n ≤ 7)) (hstaging : ¬ (32 ≤ n ∧ n ≤ 55)) :
    s.storeWord n data = s := by
  rw [State.storeWord, if_neg hparam, if_neg hstaging]

theorem State.getElem_stagingWritten (s : State) (i : Fin 24) (data : Word) (j : Fin 48) :
    (s.stagingWritten i data)[j] =
      if j.val = 2 * i.val then data.extractLsb' 0 16
      else if j.val = 2 * i.val + 1 then data.extractLsb' 16 16 else s.staging[j] := by
  simp only [State.stagingWritten, Fin.getElem_fin, Vector.getElem_set, eq_comm (b := j.val)]
  split_ifs with hhigh hlow
  · omega
  · rfl
  · rfl
  · rfl

theorem State.stagingWord_stagingWritten (s : State) (i : Fin 24) (data : Word) :
    State.stagingWord { s with staging := s.stagingWritten i data } i.val = data := by
  have hi := i.isLt
  have hlow := s.getElem_stagingWritten i data ⟨2 * i.val, by omega⟩
  have hhigh := s.getElem_stagingWritten i data ⟨2 * i.val + 1, by omega⟩
  rw [if_pos rfl] at hlow
  rw [if_neg (Nat.succ_ne_self _), if_pos rfl] at hhigh
  rw [State.stagingWord, profileWord_eq _ (by omega), profileWord_eq _ (by omega)]
  exact (congrArg₂ joinHalves hlow hhigh).trans (joinHalves_extract data)

/-! ### The statement -/

/-- The unknown command of a code that names a command is that command (log 4). -/
theorem exec_unknownCommand_of_code {c : Instr} {code : BitVec 8} (h : c.commandCode = some code.toNat) (s : State) :
    exec (.unknownCommand code) s = exec c s := by
  rw [exec_eq_writeCommandWord h, BitVec.ofNat_toNat, BitVec.setWidth_eq]
  rfl

/-- A write of word 58 writes the global enable and the ELEVATE field (13.4; log 5). -/
theorem execRegisterWrite_control {s : State} (hr : s.resetHeld = false) (data : Word) :
    exec (.registerWrite 58 data) s =
      .next { s with globalEnable := data.getLsbD 0, elevate := sourceOf (data.extractLsb' 4 4) } :=
  next_unlessReset hr _

theorem exec_registerWrite_of_plain {s : State} (hr : s.resetHeld = false) {addr : BitVec 6}
    (h : addr.toNat ≠ 1 ∧ addr.toNat ≠ 57 ∧ addr.toNat ≠ 58 ∧ addr.toNat ≠ 60) (data : Word) :
    exec (.registerWrite addr data) s = .next (s.storeWord addr.toNat data) :=
  (execRegisterWrite_of_plain ((hasOwnWriteBehaviour_eq_false_iff addr).2 h) data s).trans (next_unlessReset hr _)

theorem exec_registerWrite_param {s : State} (hr : s.resetHeld = false) {i : Fin 6} {addr : BitVec 6} (ha : addr.toNat = 2 + i.val)
    (data : Word) :
    ∃ t, exec (.registerWrite addr data) s = .next t ∧ t = { s with params := s.params.set i data } ∧ t.windowRead addr = data := by
  have hi := i.isLt
  have hexec : exec (.registerWrite addr data) s = .next { s with params := s.params.set i data } := by
    rw [exec_registerWrite_of_plain hr (by omega), ha, State.storeWord_param]
  refine ⟨_, hexec, rfl, (State.windowRead_eq (by exact hr) addr).trans ?_⟩
  rw [ha, State.windowWord_param]
  simp

theorem exec_registerWrite_staging {s : State} (hr : s.resetHeld = false) {i : Fin 24} {addr : BitVec 6}
    (ha : addr.toNat = 32 + i.val) (data : Word) :
    ∃ t, exec (.registerWrite addr data) s = .next t ∧ t = { s with staging := t.staging } ∧ t.windowRead addr = data ∧
      ∀ j : Fin 48, t.staging[j] =
        if j.val = 2 * i.val then data.extractLsb' 0 16
        else if j.val = 2 * i.val + 1 then data.extractLsb' 16 16 else s.staging[j] := by
  have hi := i.isLt
  have hexec : exec (.registerWrite addr data) s = .next { s with staging := s.stagingWritten i data } := by
    rw [exec_registerWrite_of_plain hr (by omega), ha, State.storeWord_staging]
  refine ⟨_, hexec, rfl, (State.windowRead_eq (by exact hr) addr).trans ?_, s.getElem_stagingWritten i data⟩
  rw [ha, State.windowWord_staging, State.stagingWord_stagingWritten]

theorem exec_registerWrite_other {s : State} (hr : s.resetHeld = false) {addr : BitVec 6}
    (h : addr.toNat = 0 ∨ (8 ≤ addr.toNat ∧ addr.toNat ≤ 31) ∨ addr = 56 ∨ addr = 59 ∨ 61 ≤ addr.toNat) (data : Word) :
    exec (.registerWrite addr data) s = .next s := by
  have hn : addr.toNat = 0 ∨ (8 ≤ addr.toNat ∧ addr.toNat ≤ 31) ∨ addr.toNat = 56 ∨ addr.toNat = 59 ∨ 61 ≤ addr.toNat := by
    simpa [← BitVec.toNat_inj] using h
  rw [exec_registerWrite_of_plain hr (by omega), State.storeWord_other s data (by omega) (by omega)]

theorem State.resultWord_toNat (s : State) : (s.windowWord 8).toNat = s.result.code :=
  (placeField_toNat s.result.code_lt (by decide)).trans (Nat.mul_one _)

theorem State.detailWords_toNat (s : State) {d : Fin 8 → Nat} (hd : d = fun n => s.sources[n].detail.toNat) :
    (s.windowWord 61).toNat = d 0 + d 1 * 256 + d 2 * 65536 + d 3 * 16777216 ∧
      (s.windowWord 62).toNat = d 4 + d 5 * 256 + d 6 * 65536 + d 7 * 16777216 := by
  subst hd
  exact ⟨(congrArg _ s.detailWord_low).trans (detailFields_toNat _), (congrArg _ s.detailWord_high).trans (detailFields_toNat _)⟩

/-- Settles O48: outside RESET a read of a word is `windowWord` of its number. -/
theorem windowWordsReadAndWritten : Obligations.WindowWordsReadAndWritten := by
  intro s hr
  have hread (addr : BitVec 6) : s.windowRead addr = s.windowWord addr.toNat := State.windowRead_eq hr addr
  simp only [hread]
  refine ⟨fun code hcode => ?_, rfl, fun c code hc => exec_unknownCommand_of_code hc s,
    fun data => ⟨rfl, rfl, rfl, fun x hx => ?_, fun hlarge => ?_⟩,
    fun i addr data ha => exec_registerWrite_param hr ha data, fun i addr data ha => exec_registerWrite_staging hr ha data,
    fun addr data ha => exec_registerWrite_other hr ha data, fun hfields => ?_, s.resultWord_toNat, getLsbD_bitsOf _,
    getLsbD_bitsOf _, fun he => ?_, fun x he => ?_, fun ht => ?_, fun x ht => ?_, fun d hd => s.detailWords_toNat hd,
    fun addr ha => s.windowWord_unlisted ?_⟩
  · exact (writeCommandWord_of_unknown hcode s).trans (next_unlessReset hr _)
  · rw [execRegisterWrite_control hr, sourceOf_of_number hx]
  · rw [execRegisterWrite_control hr, sourceOf_of_large hlarge]
  · obtain ⟨_, _, _, _, _, _, _, htenths⟩ := hfields
    exact State.statusWord_toNat htenths
  · exact s.controlWord_toNat.trans (by rw [he]; rfl)
  · exact s.controlWord_toNat.trans (by rw [he]; rfl)
  · exact s.topWord_toNat.trans (by rw [ht]; rfl)
  · exact s.topWord_toNat.trans (by rw [ht]; rfl)
  · simpa [← BitVec.toNat_inj] using ha

end Sys2Proof.Machine
end

section
/-! SUPPORT. The snapshot buffer: the reading commands, the closing read and DROP_SNAPSHOT; and that every other row but CLEAR_ALL, RESET
and power-on leaves the buffer as it is (R166, R167, R169, R182, R183). -/

namespace Sys2Proof.Machine

/-! ### The reading commands, DROP_SNAPSHOT and the closing read (R166, R167, R169) -/

theorem State.readRecord_of_empty {s : State} (h : s.snapshot = none) (im : Vector Word 12) :
    s.readRecord (some im) = State.finish { s with snapshot := some im } .done 0 0 := by
  rw [State.readRecord, h]
  rfl

theorem State.readRecord_of_held {s : State} (h : s.snapshot ≠ none) (im : Vector Word 12) :
    s.readRecord (some im) = s.finish .ignored 0 0 := by
  obtain ⟨held, hheld⟩ := Option.ne_none_iff_exists'.1 h
  rw [State.readRecord, hheld]
  rfl

theorem State.dropSnapshot_of_empty {s : State} (h : s.snapshot = none) : s.dropSnapshot = s.finish .ignored 0 0 := by
  rw [State.dropSnapshot, h]
  rfl

theorem State.dropSnapshot_of_held {s : State} {im : Vector Word 12} (h : s.snapshot = some im) :
    s.dropSnapshot = State.finish { s with snapshot := none } .done 0 0 := by
  rw [State.dropSnapshot, h]
  rfl

theorem State.snapshotWord_of_empty {s : State} (h : s.snapshot = none) (n : Nat) : s.snapshotWord n = 0 := by
  rw [State.snapshotWord, h]

theorem State.snapshotWord_of_held {s : State} {im : Vector Word 12} (h : s.snapshot = some im) (i : Fin 12) :
    s.snapshotWord i.val = im[i] := by
  rw [State.snapshotWord, h]
  simp [List.getD_eq_getElem?_getD]

/-- Outside RESET the closing read returns snapshot word 11 and empties the buffer (R166). -/
theorem execClosingRead_of_running {s : State} (hr : s.resetHeld = false) :
    execClosingRead s = .next { s with lbData := some (s.snapshotWord 11), snapshot := none } := by
  have hread : s.windowRead 27 = s.snapshotWord 11 := (State.windowRead_eq hr 27).trans (s.windowWord_snapshot (by decide))
  rw [execClosingRead, hread, hr]
  rfl

theorem numberOf_of_eq {n : Nat} {w : Word} {x : Fin n} (h : w.toNat = x.val) : numberOf n w = some x :=
  (numberOf_eq_some_iff w x).2 h

theorem numberOf_of_le {n : Nat} {w : Word} (h : n ≤ w.toNat) : numberOf n w = none := dif_neg (Nat.not_lt.2 h)

/-- A reading command whose number is in range serves the record of that number (R167). -/
theorem exec_reading {s : State} {c : Instr} {im : Vector Word 12} (hr : s.resetHeld = false)
    (h : c = .readLease ∧ (∃ k : SlotNo, s.params[0].toNat = k.val ∧ im = s.leaseImage k) ∨
      c = .readWait ∧ (∃ d : CellNo, s.params[0].toNat = d.val ∧ im = s.waitImage d) ∨
      c = .readAgent ∧ (∃ a : AgentNo, s.params[0].toNat = a.val ∧ im = s.agentImage a) ∨
      c = .readSweep ∧ im = s.sweepImage) : exec c s = .next (s.readRecord (some im)) := by
  obtain ⟨rfl, k, hk, rfl⟩ | ⟨rfl, d, hd, rfl⟩ | ⟨rfl, a, ha, rfl⟩ | ⟨rfl, rfl⟩ := h
  · exact (next_unlessReset hr _).trans (by rw [numberOf_of_eq hk]; rfl)
  · exact (next_unlessReset hr _).trans (by rw [numberOf_of_eq hd]; rfl)
  · exact (next_unlessReset hr _).trans (by rw [numberOf_of_eq ha]; rfl)
  · exact next_unlessReset hr _

/-! ### The shared operations leave the buffer alone -/

@[simp] theorem State.grantPass_snapshot (s : State) : s.grantPass.snapshot = s.snapshot := by rw [State.grantPass_frame]

@[simp] theorem State.passIfReadied_snapshot (before s : State) : (before.passIfReadied s).snapshot = s.snapshot := by
  unfold State.passIfReadied
  split
  · exact s.grantPass_snapshot
  · rfl

@[simp] theorem State.standingChanged_snapshot (s : State) (a : AgentNo) (old : Standing) :
    (s.standingChanged a old).snapshot = s.snapshot := by rw [State.standingChanged_frame]

@[simp] theorem State.updateConduct_snapshot (s : State) (a : AgentNo) (r : AgentRecord) :
    (s.updateConduct a r).snapshot = s.snapshot := by rw [State.updateConduct_frame]

@[simp] theorem State.charge_snapshot (s : State) (a : AgentNo) (n : ScoreName) : (s.charge a n).snapshot = s.snapshot :=
  s.updateConduct_snapshot a _

@[simp] theorem State.credit_snapshot (s : State) (a : AgentNo) : (s.credit a).snapshot = s.snapshot :=
  s.updateConduct_snapshot a _

@[simp] theorem State.freeReserved_snapshot (s : State) (k : SlotNo) : (s.freeReserved k).snapshot = s.snapshot := by
  unfold State.freeReserved
  split <;> rfl

@[simp] theorem State.collectSlot_snapshot (s : State) (k : SlotNo) : (s.collectSlot k).snapshot = s.snapshot := by
  unfold State.collectSlot
  split <;> rfl

@[simp] theorem State.cancelGrant_snapshot (s : State) (c : CellNo) : (s.cancelGrant c).snapshot = s.snapshot := by
  unfold State.cancelGrant
  split <;> rfl

@[simp] theorem State.endSweep_snapshot (s : State) (st : SweepStatus) : (s.endSweep st).snapshot = s.snapshot := rfl

@[simp] theorem State.takePresented_snapshot (s : State) : s.takePresented.snapshot = s.snapshot := by
  rw [State.takePresented_frame]

theorem State.unlessReset_snapshot {s : State} {f : State → State} (h : (f s).snapshot = s.snapshot) :
    (s.unlessReset f).snapshot = s.snapshot := by
  unfold State.unlessReset
  split
  · rfl
  · exact h

/-! ### Requests (R68 to R108) -/

theorem State.takeRequest_snapshot {s : State} {kind : Option RequestKind} {serve : AgentNo → Word → State × Answer}
    (h : ∀ a w0, (serve a w0).1.snapshot = s.snapshot) : (s.takeRequest kind serve).snapshot = s.snapshot := by
  unfold State.takeRequest
  split
  · next a w0 _ =>
    split
    · exact h a w0
    · rfl
  · rfl

theorem State.defer_snapshot (s : State) (e : WaitEntry) (r : Reason) (wait : Option Nat) (c : CellNo) :
    (s.defer e r wait c).1.snapshot = s.snapshot := by
  cases r <;> rfl

theorem State.refuseAtOnce_snapshot (s : State) (a : AgentNo) (r : Reason) : (s.refuseAtOnce a r).1.snapshot = s.snapshot := by
  cases r <;> rfl

theorem State.blockedAcquire_snapshot (s : State) (e : WaitEntry) (r : Reason) (limit : BitVec 16) :
    (s.blockedAcquire e r limit).1.snapshot = s.snapshot := by
  unfold State.blockedAcquire
  split_ifs
  · exact s.refuseAtOnce_snapshot _ r
  · rfl
  · split
    · rfl
    · exact s.defer_snapshot e r _ _

theorem State.serveAcquire_snapshot (s : State) (a : AgentNo) (q : AcquireFields) :
    (s.serveAcquire a q).1.snapshot = s.snapshot := by
  obtain h | ⟨m, _, h⟩ := s.serveAcquire_refused_or_goesOn a q
  · rw [h]
  · rw [h, State.acquireOrWait]
    split
    · rfl
    · exact s.blockedAcquire_snapshot _ _ _

theorem State.serveRenew_snapshot (s : State) (a : AgentNo) (h : Handle) (n : BitVec 16) :
    (s.serveRenew a h n).1.snapshot = s.snapshot := by
  unfold State.serveRenew
  split_ifs
  · rfl
  · rfl
  · cases (s.slot h.slot).state with
    | held l r =>
      dsimp only
      unfold State.renewHeld
      split <;> rfl
    | _ => rfl

theorem State.serveRelease_snapshot (s : State) (a : AgentNo) (h : Handle) : (s.serveRelease a h).1.snapshot = s.snapshot := by
  unfold State.serveRelease
  split_ifs
  · rfl
  · rfl
  · cases (s.slot h.slot).state with
    | held l r => simp
    | lapsed l r => simp
    | revoked l r => simp
    | _ => rfl

theorem State.servePoll_snapshot (s : State) (a : AgentNo) (t : Ticket) : (s.servePoll a t).1.snapshot = s.snapshot := by
  unfold State.servePoll
  split_ifs
  · rfl
  · rfl
  · cases (s.cell t.cell).state with
    | granted e left k => simp
    | _ => rfl

theorem State.serveWithdraw_snapshot (s : State) (a : AgentNo) (t : Ticket) : (s.serveWithdraw a t).1.snapshot = s.snapshot := by
  unfold State.serveWithdraw
  split_ifs
  · rfl
  · rfl
  · cases (s.cell t.cell).state with
    | waiting e r w => simp
    | granted e left k => simp
    | _ => rfl

/-! ### What an outcome comes to -/

/-- The outcome is a next state with the snapshot buffer as it was. -/
def KeepsSnapshot (s : State) (o : Host.Outcome State Fault Refusal) : Prop := ∃ t, o = .next t ∧ t.snapshot = s.snapshot

theorem keepsSnapshot_next {s t : State} (h : t.snapshot = s.snapshot) : KeepsSnapshot s (.next t) := ⟨t, rfl, h⟩

theorem keepsSnapshot_takeRequest {s : State} {kind : Option RequestKind} {serve : AgentNo → Word → State × Answer}
    (h : ∀ a w0, (serve a w0).1.snapshot = s.snapshot) : KeepsSnapshot s (.next (s.takeRequest kind serve)) :=
  keepsSnapshot_next (State.takeRequest_snapshot h)

theorem keepsSnapshot_unlessReset {s : State} {f : State → State} (h : (f s).snapshot = s.snapshot) :
    KeepsSnapshot s (.next (s.unlessReset f)) := keepsSnapshot_next (State.unlessReset_snapshot h)

/-! ### The bus (R60 to R65, R120, R121) -/

theorem State.choose_snapshot (s : State) : s.choose.snapshot = s.snapshot := by
  unfold State.choose
  split
  · rfl
  · split
    · unfold State.grantBus
      split <;> rfl
    · rfl

theorem execTenureEnd_keepsSnapshot (s : State) : KeepsSnapshot s (execTenureEnd s) := by
  refine keepsSnapshot_next ?_
  split <;> rfl

theorem execTenureLimitExpiry_keepsSnapshot (s : State) : KeepsSnapshot s (execTenureLimitExpiry s) := by
  refine keepsSnapshot_next ?_
  split <;> rfl

theorem execFirstRequestWord_keepsSnapshot (w0 : Word) (s : State) : KeepsSnapshot s (execFirstRequestWord w0 s) := by
  refine keepsSnapshot_next ?_
  split <;> rfl

theorem State.detached_snapshot (s : State) (a : AgentNo) : (s.detached a).snapshot = s.snapshot := by
  change (s.detachedBeforePass a).grantPass.snapshot = s.snapshot
  rw [State.grantPass_snapshot, State.detachedBeforePass_frame]

theorem execDetach_keepsSnapshot (a : AgentNo) (s : State) : KeepsSnapshot s (execDetach a s) := by
  refine keepsSnapshot_next ?_
  split
  · exact State.unlessReset_snapshot (State.detached_snapshot _ a)
  · rfl

/-! ### Expiries, visits and the check port (R40 to R46, R109, R110, R126, R137, R154) -/

theorem State.lapse_snapshot (s : State) (k : SlotNo) (l : AgentLease) : (s.lapse k l).snapshot = s.snapshot := by
  rw [State.lapse, State.raise_snapshot, State.chargeLapse]
  split
  · exact State.charge_snapshot _ _ _
  · rfl

theorem execTermExpiry_keepsSnapshot (k : SlotNo) (s : State) : KeepsSnapshot s (execTermExpiry k s) := by
  refine keepsSnapshot_next ?_
  split
  · unfold State.termRunsOut
    split_ifs
    · rfl
    · rfl
    · rw [State.passIfReadied_snapshot, State.lapse_snapshot]
  · rfl

theorem execHoldExpiry_keepsSnapshot (k : SlotNo) (s : State) : KeepsSnapshot s (execHoldExpiry k s) := by
  have hfreed : (if s.frozen then s else (s.freeSlot k).grantPass).snapshot = s.snapshot := by
    split
    · rfl
    · exact State.grantPass_snapshot _
  refine keepsSnapshot_next ?_
  split
  · exact hfreed
  · exact hfreed
  · rfl

theorem execWaitLimitExpiry_keepsSnapshot (c : CellNo) (s : State) : KeepsSnapshot s (execWaitLimitExpiry c s) := by
  refine keepsSnapshot_next ?_
  split
  · split
    · rfl
    · exact State.grantPass_snapshot _
  · rfl

theorem execCollectionExpiry_keepsSnapshot (c : CellNo) (s : State) : KeepsSnapshot s (execCollectionExpiry c s) := by
  refine keepsSnapshot_next ?_
  split
  · split
    · rfl
    · simp [State.abandonGrant]
  · split <;> rfl
  · rfl

theorem State.presentNext_snapshot (s : State) : s.presentNext.snapshot = s.snapshot := by
  unfold State.presentNext
  split
  · exact State.takePresented_snapshot _
  · rfl

theorem execTrespassCharge_keepsSnapshot (s : State) : KeepsSnapshot s (execTrespassCharge s) := by
  refine keepsSnapshot_next ?_
  split
  · rfl
  · simp [State.applyTrespass]

theorem State.visitAction_snapshot (s : State) (k : SlotNo) : (s.visitAction k).1.snapshot = s.snapshot := by
  unfold State.visitAction
  cases (s.slot k).state with
  | held l r =>
    dsimp only
    split <;> rfl
  | lapsed l r =>
    dsimp only
    split <;> rfl
  | reserved l c =>
    dsimp only
    split
    · exact State.cancelGrant_snapshot _ c
    · rfl
  | _ => rfl

theorem State.visitSlot_snapshot (s : State) (k : SlotNo) : (s.visitSlot k).snapshot = s.snapshot := by
  unfold State.visitSlot
  dsimp only
  split_ifs <;> simp [State.visitAction_snapshot]

theorem execVisit_keepsSnapshot (s : State) : KeepsSnapshot s (execVisit s) := by
  refine keepsSnapshot_next ?_
  split_ifs
  · exact s.visitSlot_snapshot _
  · rfl
  · rfl

/-! ### Host commands and writes (R133 to R136, R151 to R158, R163 to R182) -/

theorem State.setAgentCommand_snapshot (s : State) : s.setAgentCommand.snapshot = s.snapshot := by
  unfold State.setAgentCommand
  split
  · rfl
  · split
    · rfl
    · rw [State.setAgentDone, State.finish_snapshot, State.applySetAgent]
      split <;> simp

theorem State.clearAgentCommand_snapshot (s : State) : s.clearAgentCommand.snapshot = s.snapshot := by
  unfold State.clearAgentCommand
  split
  · rfl
  · exact State.updateConduct_snapshot _ _ _

theorem State.startSweep_snapshot (s : State) : s.startSweep.snapshot = s.snapshot := by
  unfold State.startSweep
  split
  · rfl
  · split
    · rfl
    · exact State.passIfReadied_snapshot _ _

theorem State.abortSweep_snapshot (s : State) : s.abortSweep.snapshot = s.snapshot := by
  unfold State.abortSweep
  split <;> simp

theorem State.deriveAll_snapshot (s before : State) : (s.deriveAll before).snapshot = s.snapshot := by
  unfold State.deriveAll
  generalize List.finRange 32 = as
  induction as generalizing s with
  | nil => rfl
  | cons a as ih => exact (ih _).trans (State.standingChanged_snapshot _ _ _)

theorem State.loadProfile_snapshot (s : State) : s.loadProfile.snapshot = s.snapshot := by
  unfold State.loadProfile
  split
  · rfl
  · exact (State.passIfReadied_snapshot _ _).trans (State.deriveAll_snapshot _ _)

theorem State.lock_snapshot (s : State) :
    (if s.lock then s.conclude .ignored else { s with lock := true }.conclude .done).snapshot = s.snapshot := by
  split <;> rfl

/-- A read of a record leaves an image the buffer holds (R167). -/
theorem State.readRecord_snapshot {s : State} (h : s.snapshot ≠ none) (image : Option (Vector Word 12)) :
    (s.readRecord image).snapshot = s.snapshot := by
  cases image with
  | none => rfl
  | some im => rw [State.readRecord_of_held h, State.finish_snapshot]

theorem State.setFence_snapshot (s : State) (r : GranuleRange) : (s.setFence r).snapshot = s.snapshot := by
  unfold State.setFence
  split_ifs
  · rfl
  · rfl
  · split <;> rfl

theorem State.clearFence_snapshot (s : State) (h : Handle) : (s.clearFence h).snapshot = s.snapshot := by
  unfold State.clearFence
  split
  · split <;> simp
  · rfl

theorem State.revokePair_snapshot (s : State) (h : Handle) : (s.revokePair h).snapshot = s.snapshot := by
  unfold State.revokePair
  split
  · cases (s.slot h.slot).state with
    | held l r => simp
    | lapsed l r => simp
    | reserved l c => simp
    | _ => rfl
  · rfl

theorem State.cancelTicket_snapshot (s : State) (t : Ticket) : (s.cancelTicket t).snapshot = s.snapshot := by
  unfold State.cancelTicket
  split
  · rfl
  · cases (s.cell t.cell).state with
    | waiting e r w => simp
    | _ => rfl

theorem State.storeWord_snapshot (s : State) (n : Nat) (data : Word) : (s.storeWord n data).snapshot = s.snapshot := by
  unfold State.storeWord
  split_ifs <;> rfl

theorem unknown_of_not_knownCommandCode {code : BitVec 8} (h : knownCommandCode code = false) : code = 0 ∨ 19 ≤ code.toNat := by
  rw [knownCommandCode, decide_eq_false_iff_not] at h
  have hcode : code.toNat = 0 ∨ 19 ≤ code.toNat := by omega
  exact hcode.imp_left BitVec.eq_of_toNat_eq

/-! ### Every row -/

/-- A held image stands across every well-formed row but CLOSING_READ, DROP_SNAPSHOT, CLEAR_ALL, RESET and power-on. -/
theorem exec_keepsSnapshot {s : State} {c : Instr} (hheld : s.snapshot ≠ none) (hform : c.wellFormed = true)
    (hclosing : c ≠ .closingRead) (hdrop : c ≠ .dropSnapshot) (hclear : c ≠ .clearAll) (hreset : c ≠ .resetHeld)
    (hpower : ∀ g n l, c ≠ .powerOn g n l) : KeepsSnapshot s (exec c s) := by
  cases c with
  | acquire w1 w2 w3 => exact keepsSnapshot_takeRequest fun _ _ => s.serveAcquire_snapshot _ _
  | renew w1 w2 w3 => exact keepsSnapshot_takeRequest fun _ _ => s.serveRenew_snapshot _ _ _
  | release w1 w2 w3 => exact keepsSnapshot_takeRequest fun _ _ => s.serveRelease_snapshot _ _
  | poll w1 w2 w3 => exact keepsSnapshot_takeRequest fun _ _ => s.servePoll_snapshot _ _
  | withdraw w1 w2 w3 => exact keepsSnapshot_takeRequest fun _ _ => s.serveWithdraw_snapshot _ _
  | unknownRequest w1 w2 w3 => exact keepsSnapshot_takeRequest fun _ _ => rfl
  | arbiterChoice req => exact keepsSnapshot_next (State.unlessReset_snapshot (State.choose_snapshot _))
  | tenureEnd => exact execTenureEnd_keepsSnapshot s
  | tenureLimitExpiry => exact execTenureLimitExpiry_keepsSnapshot s
  | attach a => exact keepsSnapshot_next rfl
  | detach a => exact execDetach_keepsSnapshot a s
  | powerOn g n l => exact absurd rfl (hpower g n l)
  | termExpiry k => exact execTermExpiry_keepsSnapshot k s
  | holdExpiry k => exact execHoldExpiry_keepsSnapshot k s
  | waitLimitExpiry c => exact execWaitLimitExpiry_keepsSnapshot c s
  | collectionExpiry c => exact execCollectionExpiry_keepsSnapshot c s
  | lookup a addr kind => exact keepsSnapshot_next (State.presentNext_snapshot _)
  | trespassCharge => exact execTrespassCharge_keepsSnapshot s
  | visit => exact execVisit_keepsSnapshot s
  | freeze => exact keepsSnapshot_unlessReset rfl
  | thaw => exact keepsSnapshot_unlessReset rfl
  | setAgent => exact keepsSnapshot_unlessReset s.setAgentCommand_snapshot
  | clearAgent => exact keepsSnapshot_unlessReset s.clearAgentCommand_snapshot
  | startSweep => exact keepsSnapshot_unlessReset s.startSweep_snapshot
  | abortSweep => exact keepsSnapshot_unlessReset s.abortSweep_snapshot
  | loadProfile => exact keepsSnapshot_unlessReset s.loadProfile_snapshot
  | lock => exact keepsSnapshot_unlessReset s.lock_snapshot
  | clearAll => exact absurd rfl hclear
  | readLease => exact keepsSnapshot_unlessReset (State.readRecord_snapshot hheld _)
  | readWait => exact keepsSnapshot_unlessReset (State.readRecord_snapshot hheld _)
  | readAgent => exact keepsSnapshot_unlessReset (State.readRecord_snapshot hheld _)
  | readSweep => exact keepsSnapshot_unlessReset (State.readRecord_snapshot hheld _)
  | dropSnapshot => exact absurd rfl hdrop
  | fenceSet => exact keepsSnapshot_unlessReset (s.setFence_snapshot _)
  | fenceClear => exact keepsSnapshot_unlessReset (s.clearFence_snapshot _)
  | revoke => exact keepsSnapshot_unlessReset (s.revokePair_snapshot _)
  | cancelTicket => exact keepsSnapshot_unlessReset (s.cancelTicket_snapshot _)
  | unknownCommand code =>
    have hcode := unknown_of_not_knownCommandCode ((Bool.not_eq_true' _).mp hform)
    change KeepsSnapshot s (writeCommandWord code s)
    rw [writeCommandWord_of_unknown hcode]
    exact keepsSnapshot_unlessReset rfl
  | closingRead => exact absurd rfl hclosing
  | enableWrite data => exact keepsSnapshot_unlessReset rfl
  | globalEnableWrite on => exact keepsSnapshot_unlessReset rfl
  | elevateWrite field => exact keepsSnapshot_unlessReset rfl
  | acknowledge data => exact keepsSnapshot_unlessReset rfl
  | registerWrite addr data =>
    change KeepsSnapshot s (execRegisterWrite addr data s)
    rw [execRegisterWrite_of_plain ((Bool.not_eq_true' _).mp hform)]
    exact keepsSnapshot_unlessReset (s.storeWord_snapshot _ data)
  | firstRequestWord w0 => exact execFirstRequestWord_keepsSnapshot w0 s
  | resetHeld => exact absurd rfl hreset

/-- Settles O44: what the commands on the buffer do, and the law of the buffer over the rows. -/
theorem snapshotBufferHoldsOneImage : Obligations.SnapshotBufferHoldsOneImage := by
  refine ⟨fun s c im hr hc => ⟨fun hempty => ?_, fun hheld => ?_⟩,
    fun s hr => ⟨fun hn => ?_, fun hn => ?_, fun hn => ?_, fun hempty => ?_, fun im him => ?_⟩,
    fun c s t im him ht hform hclosing hdrop hclear hreset hpower => ?_⟩
  · rw [exec_reading hr hc, State.readRecord_of_empty hempty]
  · rw [exec_reading hr hc, State.readRecord_of_held hheld]
  · exact (next_unlessReset hr _).trans (by rw [numberOf_of_le hn]; rfl)
  · exact (next_unlessReset hr _).trans (by rw [numberOf_of_le hn]; rfl)
  · exact (next_unlessReset hr _).trans (by rw [numberOf_of_le hn]; rfl)
  · refine ⟨(next_unlessReset hr _).trans (congrArg _ (State.dropSnapshot_of_empty hempty)),
      (execClosingRead_of_running hr).trans ?_, fun n h16 h27 => ?_⟩
    · rw [State.snapshotWord_of_empty hempty, ← hempty]
    · rw [s.windowWord_snapshot ⟨h16, h27⟩, State.snapshotWord_of_empty hempty]
  · refine ⟨(next_unlessReset hr _).trans (congrArg _ (State.dropSnapshot_of_held him)),
      (execClosingRead_of_running hr).trans ?_, fun i => ?_⟩
    · rw [show s.snapshotWord 11 = im[11] from State.snapshotWord_of_held him 11]
    · rw [s.windowWord_snapshot (by omega), Nat.add_sub_cancel_left, State.snapshotWord_of_held him]
  · obtain ⟨u, hu, hkeeps⟩ := exec_keepsSnapshot (him ▸ Option.some_ne_none im) hform hclosing hdrop hclear hreset hpower
    cases hu.symm.trans ht
    exact hkeeps.trans him

end Sys2Proof.Machine
end

section
/-! SUPPORT. RESET: what its assertion leaves, that nothing the host or the bus sends is taken while it is held, and that the tables held
meanwhile give no expiry, visit or charge anything to act on (R183; logs 11, 12, 13, 17, 18, 26). -/

set_option Elab.async false

namespace Sys2Proof.Machine

/-! ### The assertion of RESET -/

theorem execResetHeld_of_notPresented {s : State} (h : s.presented = none) : exec .resetHeld s = .next s.resetAsserted :=
  congrArg Host.Outcome.next (State.takePresented_of_none (s := s.resetAsserted) h)

/-- The lookup presented when RESET is asserted is answered in the same step (log 11). -/
theorem execResetHeld_of_presented {s : State} {l : Lookup} (h : s.presented = some l) :
    exec .resetHeld s = .next { s.resetAsserted with presented := none, ckAnswer := some (.deny .offline) } :=
  congrArg Host.Outcome.next (State.takePresented_of_reset (s := s.resetAsserted) rfl h)

theorem State.intLine_of_disabled {s : State} (h : s.globalEnable = false) : s.intLine = false := by
  simp [State.intLine, h]

theorem State.gnt_of_free {s : State} (h : s.tenure = none) : s.gnt = 0 := by
  simp [State.gnt, h]

/-! ### What is sent while RESET is held -/

theorem next_unlessReset_of_held {s : State} (hr : s.resetHeld = true) (f : State → State) :
    Host.Outcome.next (φ := Fault) (ρ := Refusal) (s.unlessReset f) = .next s :=
  congrArg _ (State.unlessReset_of_held hr f)

/-- No command is taken while RESET is held, whatever its code (log 17). -/
theorem writeCommandWord_of_reset {s : State} (hr : s.resetHeld = true) (code : BitVec 8) : writeCommandWord code s = .next s := by
  unfold writeCommandWord
  split <;> exact next_unlessReset_of_held hr _

theorem execRegisterWrite_of_reset {s : State} (hr : s.resetHeld = true) (addr : BitVec 6) (data : Word) :
    execRegisterWrite addr data s = .next s := by
  unfold execRegisterWrite
  split
  · exact writeCommandWord_of_reset hr _
  · exact next_unlessReset_of_held hr _
  · exact next_unlessReset_of_held hr _
  · exact next_unlessReset_of_held hr _
  · exact next_unlessReset_of_held hr _

theorem State.windowRead_of_reset {s : State} (hr : s.resetHeld = true) (addr : BitVec 6) : s.windowRead addr = 0 := if_pos hr

theorem execClosingRead_of_reset {s : State} (hr : s.resetHeld = true) : execClosingRead s = .next { s with lbData := some 0 } := by
  rw [execClosingRead, State.windowRead_of_reset hr, if_pos hr]

/-- The fall of ATTACH moves the line and nothing else (log 17). -/
theorem exec_detach_of_reset {s : State} (hr : s.resetHeld = true) (a : AgentNo) :
    exec (.detach a) s = .next { s with attach := setLine s.attach a false } := by
  refine congrArg Host.Outcome.next ?_
  split
  · exact State.unlessReset_of_held (s := s.lineLowered a) hr _
  · rfl

/-- A rise of CK_VALID is answered DENY OFFLINE, for the oldest lookup that waits (R183; log 11). -/
theorem exec_lookup_of_reset {s : State} {a : AgentNo} {addr : BitVec 40} {kind : AccessKind} {l : Lookup} {more : List Lookup}
    (hr : s.resetHeld = true) (hp : s.presented = none) (h : s.heldLookups ++ [⟨a, addr, kind⟩] = l :: more) :
    exec (.lookup a addr kind) s = .next { s with ckAnswer := some (.deny .offline), heldLookups := more } := by
  have htaken := State.takePresented_of_reset (s := { s with presented := some l, heldLookups := more, ckAnswer := none }) hr rfl
  rw [exec_lookup_of_rise hp h, htaken, ← hp]

/-! ### What the tables give to act on -/

theorem exec_visit_of_notInProgress {s : State} (h : s.sweep.status ≠ .inProgress) : exec .visit s = .next s :=
  congrArg Host.Outcome.next (if_neg h)

/-- Settles O5: the assertion of RESET, then the rows that are not taken in any state under it, then those that find nothing to act on in
the tables held meanwhile. -/
theorem resetSilencesThePart : Obligations.ResetSilencesThePart := by
  refine ⟨fun s => ?_, fun s hr => ⟨fun c hc => ?_, fun code => writeCommandWord_of_reset hr code,
    fun d => next_unlessReset_of_held hr _, fun b => next_unlessReset_of_held hr _, fun f => next_unlessReset_of_held hr _,
    fun d => next_unlessReset_of_held hr _, execRegisterWrite_of_reset hr, execClosingRead_of_reset hr,
    State.windowRead_of_reset hr, fun req => next_unlessReset_of_held (s := { s with req := req }) hr _,
    fun a => ⟨_, rfl, rfl⟩, fun a => ⟨_, exec_detach_of_reset hr a, rfl⟩,
    fun a addr kind => ⟨fun hp => exec_lookup_of_presented hp a addr kind, fun hp hnone => ?_, fun l more hp hold => ?_⟩⟩,
    fun s hr hquiet => ?_⟩
  · cases hp : s.presented with
    | none =>
      refine ⟨_, execResetHeld_of_notPresented hp, rfl, rfl, rfl, fun n => rfl, rfl, nofun, rfl, rfl, rfl, rfl, rfl, rfl, rfl, rfl,
        rfl, hp, rfl, fun _ => rfl, fun h => absurd rfl h⟩
    | some l =>
      refine ⟨_, execResetHeld_of_presented hp, rfl, rfl, rfl, fun n => rfl, rfl, nofun, rfl, rfl, rfl, rfl, rfl, rfl, rfl, rfl,
        rfl, rfl, rfl, nofun, fun _ => rfl⟩
  · obtain ⟨n, hn⟩ := Option.isSome_iff_exists.1 hc
    exact (exec_eq_writeCommandWord hn s).trans (writeCommandWord_of_reset hr _)
  · rw [exec_lookup_of_reset hr hp (by rw [hnone, List.nil_append]), ← hnone]
  · rw [exec_lookup_of_reset hr hp (by rw [hold, List.cons_append])]
  · obtain ⟨htenure, hsweep, hcharges, _, _, henable, hslots, hcells⟩ := hquiet hr
    have hbus (t : Tenure) : s.tenure ≠ some t := htenure ▸ nofun
    have hslot (k : SlotNo) {x : SlotState} (hx : x ≠ .free) : (s.slot k).state ≠ x := hslots k ▸ hx.symm
    have hcell (c : CellNo) {x : CellState} (hx : x ≠ .empty) : (s.cell c).state ≠ x := hcells c ▸ hx.symm
    refine ⟨State.gnt_of_free htenure, State.intLine_of_disabled henable, fun c k hc => ?_,
      exec_firstRequestWord_of_not fun _ _ => hbus _, exec_tenureEnd_of_not fun _ _ _ => hbus _,
      exec_tenureLimitExpiry_of_not fun _ => hbus _,
      fun k => ⟨execTermExpiry_of_notDue fun _ => hslot k nofun, execHoldExpiry_of_notDue fun _ => ⟨hslot k nofun, hslot k nofun⟩⟩,
      fun c => ⟨execWaitLimitExpiry_of_notDue fun _ _ => hcell c nofun,
        execCollectionExpiry_of_notDue (fun _ _ => hcell c nofun) fun _ _ => hcell c nofun⟩,
      exec_visit_of_notInProgress (hsweep ▸ nofun), exec_trespassCharge_of_empty hcharges⟩
    obtain ⟨serve, hserve⟩ := exec_requestRow hc s
    rw [hserve, State.takeRequest_of_not fun _ _ hreq => hbus _ hreq.1]

end Sys2Proof.Machine
end

section
/-! SUPPORT. The application of a profile: the records and settings it writes, and what the derivation of every standing afresh makes of
the cells and of the interrupt sources (R129, R130, R179). -/

set_option Elab.async false

namespace Sys2Proof.Machine

/-! ### One standing derived afresh (R129, R130) -/

theorem State.standingChanged_of_barred {s before : State} {a : AgentNo} (h : before.Enters s a .barred) :
    s.standingChanged a (before.standing a) = (s.raise .agentBarred a.val).readyWhere (fun e => e.agent == a) .barred := by
  obtain ⟨hne, hnew⟩ := h
  rw [State.standingChanged, if_neg hne.symm, hnew]

theorem State.standingChanged_of_advised {s before : State} {a : AgentNo} (h : before.Enters s a .advised) :
    s.standingChanged a (before.standing a) = s.raise .agentAdvised a.val := by
  obtain ⟨hne, hnew⟩ := h
  rw [State.standingChanged, if_neg hne.symm, hnew]

theorem State.standingChanged_of_neither {s before : State} {a : AgentNo} (hbarred : ¬ before.Enters s a .barred)
    (hadvised : ¬ before.Enters s a .advised) : s.standingChanged a (before.standing a) = s := by
  unfold State.standingChanged
  split
  · rfl
  · next hne =>
    split
    · next hnew => exact absurd ⟨Ne.symm hne, hnew⟩ hbarred
    · next hnew => exact absurd ⟨Ne.symm hne, hnew⟩ hadvised
    · rfl

theorem State.collectAmount_standingChanged (s : State) (a : AgentNo) (old : Standing) :
    (s.standingChanged a old).collectAmount = s.collectAmount := by
  rw [State.standingChanged_frame]
  rfl

theorem State.cell_standingChanged (s before : State) (a : AgentNo) (c : CellNo) :
    (s.standingChanged a (before.standing a)).cell c =
      (s.cell c).readied (fun e => decide (e.agent = a ∧ before.Enters s a .barred)) .barred s.collectAmount := by
  by_cases hbarred : before.Enters s a .barred
  · rw [State.standingChanged_of_barred hbarred, State.cell_readyWhere]
    refine congrArg (fun p => (s.cell c).readied p .barred s.collectAmount) (funext fun e => ?_)
    rw [Bool.eq_iff_iff, beq_iff_eq, decide_eq_true_iff, and_iff_left hbarred]
  · rw [WaitCell.readied_of_not fun e _ => decide_eq_false fun h => hbarred h.2]
    by_cases hadvised : before.Enters s a .advised
    · rw [State.standingChanged_of_advised hadvised, State.cell_raise]
    · rw [State.standingChanged_of_neither hbarred hadvised]

/-- The interrupt source the entry into a standing raises (R129). -/
def Standing.event : Standing → Option Source
  | .barred => some .agentBarred
  | .advised => some .agentAdvised
  | .good => none

/-- From `s` to `t` the agent enters a standing whose event is of source number `n`. -/
def State.EntersRaising (s t : State) (a : AgentNo) (n : Fin 8) : Prop :=
  ∃ x src, s.Enters t a x ∧ x.event = some src ∧ src.number = n

/-- Each event comes of one standing. -/
theorem State.entersRaising_iff_enters {x : Standing} {src : Source} (hx : x.event = some src) (s t : State) (a : AgentNo) :
    s.EntersRaising t a src.number ↔ s.Enters t a x := by
  refine ⟨fun ⟨y, other, henters, hevent, hn⟩ => ?_, fun h => ⟨x, src, h, hx, rfl⟩⟩
  cases x <;> cases hx <;> cases y <;> cases hevent
  · exact henters
  · cases hn
  · cases hn
  · exact henters

theorem State.not_entersRaising_of_ne (s t : State) (a : AgentNo) {n : Fin 8} (h0 : n ≠ 0) (h3 : n ≠ 3) :
    ¬ s.EntersRaising t a n := by
  rintro ⟨x, src, _, hevent, hn⟩
  cases x <;> cases hevent
  · exact h3 hn.symm
  · exact h0 hn.symm

theorem State.entersRaising_congr {s t u : State} (h : ∀ b, u.standing b = t.standing b) (a : AgentNo) (n : Fin 8) :
    s.EntersRaising u a n ↔ s.EntersRaising t a n := by
  simp only [State.EntersRaising, State.Enters, h]

theorem State.sources_standingChanged_of_raising {s before : State} {a : AgentNo} {n : Fin 8} (h : before.EntersRaising s a n) :
    (s.standingChanged a (before.standing a)).sources[n] = ⟨true, BitVec.ofNat 8 a.val, s.sources[n].enabled⟩ := by
  obtain ⟨x, src, henters, hevent, rfl⟩ := h
  cases x with
  | barred =>
    cases hevent
    rw [State.standingChanged_of_barred henters]
    exact s.sources_raise_self .agentBarred a.val
  | advised =>
    cases hevent
    rw [State.standingChanged_of_advised henters]
    exact s.sources_raise_self .agentAdvised a.val
  | good => cases hevent

theorem State.sources_standingChanged_of_not {s before : State} {a : AgentNo} {n : Fin 8} (h : ¬ before.EntersRaising s a n) :
    (s.standingChanged a (before.standing a)).sources[n] = s.sources[n] := by
  by_cases hbarred : before.Enters s a .barred
  · rw [State.standingChanged_of_barred hbarred]
    exact s.sources_raise_of_ne .agentBarred a.val n fun hn => h ⟨_, _, hbarred, rfl, hn⟩
  · by_cases hadvised : before.Enters s a .advised
    · rw [State.standingChanged_of_advised hadvised]
      exact s.sources_raise_of_ne .agentAdvised a.val n fun hn => h ⟨_, _, hadvised, rfl, hn⟩
    · rw [State.standingChanged_of_neither hbarred hadvised]

theorem State.enabled_standingChanged (s before : State) (a : AgentNo) (n : Fin 8) :
    (s.standingChanged a (before.standing a)).sources[n].enabled = s.sources[n].enabled := by
  by_cases h : before.EntersRaising s a n
  · rw [State.sources_standingChanged_of_raising h]
  · rw [State.sources_standingChanged_of_not h]

/-! ### Several standings derived afresh, in the order of a list of agents -/

theorem WaitCell.readied_readied (x : WaitCell) (p q : WaitEntry → Bool) (o : Ending) (n : Nat) :
    (x.readied p o n).readied q o n = x.readied (fun e => p e || q e) o n := by
  obtain ⟨g, st⟩ := x
  cases st with
  | waiting e r w => cases hp : p e <;> simp [WaitCell.readied, hp]
  | _ => rfl

theorem State.deriveFor_append (s before : State) (as bs : List AgentNo) :
    s.deriveFor before (as ++ bs) = (s.deriveFor before as).deriveFor before bs := List.foldl_append

theorem State.deriveFor_frame (s before : State) (as : List AgentNo) :
    s.deriveFor before as =
      { s with sources := (s.deriveFor before as).sources, cells := (s.deriveFor before as).cells } := by
  induction as generalizing s with
  | nil => rfl
  | cons a as ih =>
    have hframe := s.standingChanged_frame a (before.standing a)
    rw [State.deriveFor_cons]
    generalize s.standingChanged a (before.standing a) = t at hframe
    refine (ih t).trans ?_
    generalize t.deriveFor before as = u
    rw [hframe]

theorem State.cell_deriveFor (s before : State) (as : List AgentNo) (c : CellNo) :
    (s.deriveFor before as).cell c =
      (s.cell c).readied (fun e => decide (e.agent ∈ as ∧ before.Enters s e.agent .barred)) .barred s.collectAmount := by
  induction as generalizing s with
  | nil => exact (WaitCell.readied_of_not (fun e _ => decide_eq_false fun h => nomatch h.1) _ _).symm
  | cons a as ih =>
    rw [State.deriveFor_cons, ih, State.cell_standingChanged, State.collectAmount_standingChanged, WaitCell.readied_readied]
    refine congrArg (fun p => WaitCell.readied _ p _ _) (funext fun e => ?_)
    rw [Bool.eq_iff_iff]
    simp only [State.Enters, State.standing_standingChanged, Bool.or_eq_true, decide_eq_true_eq, List.mem_cons, or_and_right]
    exact or_congr_left (and_congr_right fun ha => by rw [ha])

theorem State.sources_deriveFor_of_not {s before : State} {as : List AgentNo} {n : Fin 8}
    (h : ∀ a ∈ as, ¬ before.EntersRaising s a n) : (s.deriveFor before as).sources[n] = s.sources[n] := by
  induction as generalizing s with
  | nil => rfl
  | cons a as ih =>
    obtain ⟨ha, has⟩ := List.forall_mem_cons.1 h
    rw [State.deriveFor_cons, ih fun b hb => ?_, State.sources_standingChanged_of_not ha]
    rw [State.entersRaising_congr fun _ => State.standing_standingChanged _ _ _ _]
    exact has b hb

theorem State.enabled_deriveFor (s before : State) (as : List AgentNo) (n : Fin 8) :
    (s.deriveFor before as).sources[n].enabled = s.sources[n].enabled := by
  induction as generalizing s with
  | nil => rfl
  | cons a as ih => rw [State.deriveFor_cons, ih, State.enabled_standingChanged]

/-- The detail of a source is that of the last agent of the list whose new standing raises it (R184). -/
theorem State.sources_deriveFor_of_last {s before : State} {as bs : List AgentNo} {a : AgentNo} {n : Fin 8}
    (ha : before.EntersRaising s a n) (hbs : ∀ b ∈ bs, ¬ before.EntersRaising s b n) :
    (s.deriveFor before (as ++ a :: bs)).sources[n] = ⟨true, BitVec.ofNat 8 a.val, s.sources[n].enabled⟩ := by
  have hstanding (b : AgentNo) : (s.deriveFor before as).standing b = s.standing b := s.standing_deriveFor before as b
  rw [State.deriveFor_append, State.deriveFor_cons, State.sources_deriveFor_of_not fun b hb => ?_,
    State.sources_standingChanged_of_raising ((State.entersRaising_congr hstanding a n).2 ha), State.enabled_deriveFor]
  rw [State.entersRaising_congr fun b => (State.standing_standingChanged _ _ _ _).trans (hstanding b)]
  exact hbs b hb

/-! ### Every standing derived afresh (R179) -/

theorem State.standing_deriveAll (s before : State) (a : AgentNo) : (s.deriveAll before).standing a = s.standing a :=
  s.standing_deriveFor before _ a

theorem State.cell_deriveAll (s before : State) (c : CellNo) :
    (s.deriveAll before).cell c =
      (s.cell c).readied (fun e => decide (before.Enters s e.agent .barred)) .barred s.collectAmount := by
  simp only [State.deriveAll_eq, State.cell_deriveFor, List.mem_finRange, true_and]

/-- A source that more than one agent raises keeps the number of the highest, the order being the ascending one. -/
theorem State.sources_deriveAll_of_last {s before : State} {a : AgentNo} {n : Fin 8} (ha : before.EntersRaising s a n)
    (hlast : ∀ b, a < b → ¬ before.EntersRaising s b n) :
    (s.deriveAll before).sources[n] = ⟨true, BitVec.ofNat 8 a.val, s.sources[n].enabled⟩ := by
  obtain ⟨as, bs, hsplit⟩ := List.append_of_mem (List.mem_finRange a)
  have hsorted : (as ++ a :: bs).Pairwise (· < ·) := hsplit ▸ (List.sortedLT_finRange 32).pairwise
  obtain ⟨habove, _⟩ := List.pairwise_cons.1 (List.pairwise_append.1 hsorted).2.1
  rw [State.deriveAll_eq, hsplit]
  exact State.sources_deriveFor_of_last ha fun b hb => hlast b (habove b hb)

theorem State.sources_deriveAll_of_none {s before : State} {n : Fin 8} (h : ∀ a, ¬ before.EntersRaising s a n) :
    (s.deriveAll before).sources[n] = s.sources[n] := State.sources_deriveFor_of_not fun a _ => h a

/-! ### LOAD_PROFILE that passes every test (R178, R179) -/

theorem State.loadRefusal_eq_none {s : State} (hlock : s.lock = false) (hsweep : s.sweep.status ≠ .inProgress)
    (hrevision : s.staging[0] = 1) (hsum : profileSum s.staging = 0)
    (hfields : profileFieldsInRange s.largestGranule s.staging = true)
    (hvalid : ∃ i : Fin 8, (readProfile s.staging).map[i].valid = true)
    (hmap : s.mapConflict (readProfile s.staging).map = false) : s.loadRefusal = none := by
  have hword : profileWord s.staging 0 = 1 := (profileWord_eq _ (by decide)).trans hrevision
  have hcount : validCount (readProfile s.staging).map ≠ 0 := fun h => by
    obtain ⟨i, hi⟩ := hvalid
    rw [(validCount_eq_zero_iff _).1 h i] at hi
    cases hi
  simp [State.loadRefusal, hlock, hsweep, hword, hsum, hfields, hcount, hmap]

theorem State.loadProfile_of_passed {s : State} (h : s.loadRefusal = none) :
    s.loadProfile =
      (s.applyProfile (readProfile s.staging)).finish .done
        (wordOf (standingsChanged s (s.applyProfile (readProfile s.staging)))) (wordOf (validCount (readProfile s.staging).map)) := by
  rw [State.loadProfile, h]

theorem State.agent_writeProfile (s : State) (p : Profile) (a : AgentNo) :
    (s.writeProfile p).agent a = (s.agent a).withSettings p.overstay p.abandon p.trespass := by
  simp [State.agent, State.writeProfile]

theorem State.agents_passIfReadied (before s : State) : (before.passIfReadied s).agents = s.agents := by
  unfold State.passIfReadied
  split
  · rw [State.grantPass_frame]
  · rfl

/-- Cells that have only taken the readying step or stayed call for a pass when they have changed (R98). -/
theorem State.passIfReadied_of_cells_ne {s t : State} {p : WaitEntry → Bool} {o : Ending} {n : Nat}
    (hcell : ∀ c, t.cell c = (s.cell c).readied p o n) (h : t.cells ≠ s.cells) : s.passIfReadied t = t.grantPass := by
  have hchanged : ∃ c, t.cell c ≠ s.cell c := not_forall.1 fun hsame => h (Vector.ext fun i hi => hsame ⟨i, hi⟩)
  obtain ⟨c, hc⟩ := hchanged
  refine if_pos (List.any_eq_true.2 ⟨c, List.mem_finRange c, ?_⟩)
  obtain hstays | ⟨e, r, w, hwait, _, hreadied⟩ := (s.cell c).readied_eq p o n
  · exact absurd ((hcell c).trans hstays) hc
  · rw [hcell, hreadied, hwait]
    rfl

theorem validCount_eq (map : Vector Partition 8) : validCount map = ((List.finRange 8).filter fun i => map[i].valid).length := by
  have hentries : map.toList = (List.finRange 8).map fun i => map[i] := List.ext_getElem (by simp) fun i _ _ => by simp
  rw [validCount, hentries, List.countP_map, List.countP_eq_length_filter]
  rfl

/-- The part with a profile written and every standing derived, before any grant pass (R179, steps 1 to 4). -/
def State.profileWritten (s : State) (p : Profile) : State := (s.writeProfile p).deriveAll s

theorem State.applyProfile_eq (s : State) (p : Profile) : s.applyProfile p = s.passIfReadied (s.profileWritten p) := rfl

/-- The derivation leaves of the profile written all but the sources and the cells. -/
theorem State.profileWritten_frame (s : State) (p : Profile) :
    s.profileWritten p =
      { s.writeProfile p with sources := (s.profileWritten p).sources, cells := (s.profileWritten p).cells } := by
  rw [State.profileWritten, State.deriveAll_eq]
  exact State.deriveFor_frame _ _ _

theorem State.agents_profileWritten (s : State) (p : Profile) : (s.profileWritten p).agents = (s.writeProfile p).agents := by
  rw [State.profileWritten_frame]

theorem State.agent_profileWritten (s : State) (p : Profile) (a : AgentNo) :
    (s.profileWritten p).agent a = (s.agent a).withSettings p.overstay p.abandon p.trespass :=
  (State.agent_congr (s.agents_profileWritten p) a).trans (s.agent_writeProfile p a)

theorem State.standing_profileWritten (s : State) (p : Profile) (a : AgentNo) :
    (s.profileWritten p).standing a = (s.writeProfile p).standing a := State.standing_deriveAll _ s a

/-- The entries of the agents the profile bars become READY, under the collection window it sets (R130, R179). -/
theorem State.cell_profileWritten (s : State) (p : Profile) (c : CellNo) :
    (s.profileWritten p).cell c =
      (s.cell c).readied (fun e => decide (s.Enters (s.profileWritten p) e.agent .barred)) .barred
        (p.collectWindow.toNat * 1000) := by
  simp only [State.Enters, State.standing_profileWritten]
  exact (s.writeProfile p).cell_deriveAll s c

theorem State.entersRaising_profileWritten_iff (s : State) (p : Profile) (a : AgentNo) (n : Fin 8) :
    s.EntersRaising (s.profileWritten p) a n ↔ s.EntersRaising (s.writeProfile p) a n :=
  State.entersRaising_congr (s.standing_profileWritten p) a n

/-- A source whose event no agent meets stays. -/
theorem State.sources_profileWritten_of_not {s : State} {p : Profile} {n : Fin 8}
    (h : ∀ a, ¬ s.EntersRaising (s.profileWritten p) a n) : (s.profileWritten p).sources[n] = s.sources[n] :=
  State.sources_deriveAll_of_none fun a => mt (s.entersRaising_profileWritten_iff p a n).2 (h a)

theorem State.sources_profileWritten_of_none {s : State} {p : Profile} {x : Standing} {src : Source} (hx : x.event = some src)
    (h : ∀ a, ¬ s.Enters (s.profileWritten p) a x) : (s.profileWritten p).sources[src.number] = s.sources[src.number] :=
  State.sources_profileWritten_of_not fun a => mt (State.entersRaising_iff_enters hx _ _ a).1 (h a)

theorem State.sources_profileWritten_of_last {s : State} {p : Profile} {a : AgentNo} {x : Standing} {src : Source}
    (hx : x.event = some src) (h : s.LastToEnter (s.profileWritten p) a x) :
    (s.profileWritten p).sources[src.number] = ⟨true, BitVec.ofNat 8 a.val, s.sources[src.number].enabled⟩ := by
  obtain ⟨ha, hlast⟩ := h
  simp only [← State.entersRaising_iff_enters hx, State.entersRaising_profileWritten_iff] at ha hlast
  exact State.sources_deriveAll_of_last ha hlast

theorem State.standingsChanged_applyProfile (s : State) (p : Profile) :
    standingsChanged s (s.applyProfile p) =
      ((List.finRange 32).filter fun a => decide (s.standing a ≠ (s.profileWritten p).standing a)).length := by
  have hstanding (a : AgentNo) : (s.applyProfile p).standing a = (s.profileWritten p).standing a :=
    congrArg AgentRecord.standing (State.agent_congr (s.agents_passIfReadied _) a)
  simp only [standingsChanged, hstanding, List.countP_eq_length_filter]

/-- Settles O41: the standings are those of the records written, so the cells and the sources are what the derivation of each makes of them
in ascending order. -/
theorem loadProfileApplies : Obligations.LoadProfileApplies := by
  rintro s p hr rfl hlock hsweep hrevision hsum hfields hvalid hslots hcells
  have hpassed : s.loadRefusal = none := State.loadRefusal_eq_none hlock hsweep hrevision hsum hfields hvalid
    ((s.mapConflict_eq_false_iff _).2 ⟨hslots, hcells⟩)
  have hexec : exec .loadProfile s = .next s.loadProfile := next_unlessReset hr _
  rw [hexec, State.loadProfile_of_passed hpassed, State.standingsChanged_applyProfile, validCount_eq, State.applyProfile_eq]
  generalize readProfile s.staging = p
  refine ⟨s.profileWritten p, _, _, ?_, s.agent_profileWritten p, fun c e x left hwait henters => ?_, fun c hstays => ?_,
    fun a => State.sources_profileWritten_of_last (src := .agentBarred) rfl,
    State.sources_profileWritten_of_none (src := .agentBarred) rfl,
    fun a => State.sources_profileWritten_of_last (src := .agentAdvised) rfl,
    State.sources_profileWritten_of_none (src := .agentAdvised) rfl,
    fun n h0 h3 => State.sources_profileWritten_of_not fun a => s.not_entersRaising_of_ne _ a h0 h3, rfl, rfl,
    fun hsame => ?_, fun hne => ?_⟩
  · rw [s.agents_profileWritten]
    exact s.profileWritten_frame p
  · rw [s.cell_profileWritten, WaitCell.readied_of_waiting hwait (decide_eq_true henters)]
  · rw [s.cell_profileWritten, WaitCell.readied_of_not fun e he => decide_eq_false (hstays e he)]
  · rw [State.passIfReadied_of_cells_eq hsame]
    rfl
  · rw [State.passIfReadied_of_cells_ne (s.cell_profileWritten p) hne]
    rfl

end Sys2Proof.Machine
end

section
/-! SUPPORT. The policy the lock protects, and that no row but power-on and RESET changes it while the lock is set, or clears the lock but
a CLEAR_ALL (R181, R182). -/

set_option Elab.async false

namespace Sys2Proof.Machine

/-! ### The policy and the lock -/

/-- The settings of the three scores of a record. -/
def AgentRecord.settings (r : AgentRecord) : ScoreSettings × ScoreSettings × ScoreSettings :=
  (r.overstay.settings, r.abandon.settings, r.trespass.settings)

/-- From `s` to `t` the map, the part-wide settings and the settings of every agent stay (R181). -/
structure State.KeepsPolicy (s t : State) : Prop where
  map : t.map = s.map := by rfl
  unitCode : t.unitCode = s.unitCode := by rfl
  holdPeriod : t.holdPeriod = s.holdPeriod := by rfl
  collectWindow : t.collectWindow = s.collectWindow := by rfl
  yieldFlag : t.yieldFlag = s.yieldFlag := by rfl
  settings : ∀ a, (t.agent a).settings = (s.agent a).settings := by exact fun _ => rfl

/-- From `s` to `t` the policy stays, and the lock with it. -/
structure State.GuardsPolicy (s t : State) : Prop extends s.KeepsPolicy t where
  lock : t.lock = s.lock := by rfl

theorem State.KeepsPolicy.trans {s t u : State} (h : s.KeepsPolicy t) (h' : t.KeepsPolicy u) : s.KeepsPolicy u where
  map := h'.map.trans h.map
  unitCode := h'.unitCode.trans h.unitCode
  holdPeriod := h'.holdPeriod.trans h.holdPeriod
  collectWindow := h'.collectWindow.trans h.collectWindow
  yieldFlag := h'.yieldFlag.trans h.yieldFlag
  settings a := (h'.settings a).trans (h.settings a)

theorem State.GuardsPolicy.refl (s : State) : s.GuardsPolicy s := {}

theorem State.GuardsPolicy.trans {s t u : State} (h : s.GuardsPolicy t) (h' : t.GuardsPolicy u) : s.GuardsPolicy u where
  toKeepsPolicy := h.toKeepsPolicy.trans h'.toKeepsPolicy
  lock := h'.lock.trans h.lock

/-! ### The shared operations -/

theorem State.guardsPolicy_grantPass (s : State) : s.GuardsPolicy s.grantPass := by
  rw [State.grantPass_frame]
  exact {}

theorem State.GuardsPolicy.grantPass {s t : State} (h : s.GuardsPolicy t) : s.GuardsPolicy t.grantPass :=
  h.trans t.guardsPolicy_grantPass

theorem State.GuardsPolicy.passIfReadied {s t : State} (h : s.GuardsPolicy t) (before : State) :
    s.GuardsPolicy (before.passIfReadied t) := by
  unfold State.passIfReadied
  split
  · exact h.grantPass
  · exact h

theorem State.GuardsPolicy.raise {s t : State} (h : s.GuardsPolicy t) (x : Source) (d : Nat) : s.GuardsPolicy (t.raise x d) :=
  h.trans {}

theorem State.GuardsPolicy.finish {s t : State} (h : s.GuardsPolicy t) (r : ResultCode) (v w : Word) :
    s.GuardsPolicy (t.finish r v w) := h.trans {}

theorem State.GuardsPolicy.conclude {s t : State} (h : s.GuardsPolicy t) (r : ResultCode) : s.GuardsPolicy (t.conclude r) :=
  h.finish r 0 0

theorem State.guardsPolicy_freeSlot (s : State) (k : SlotNo) : s.GuardsPolicy (s.freeSlot k) := {}

theorem State.guardsPolicy_emptyCell (s : State) (c : CellNo) : s.GuardsPolicy (s.emptyCell c) := {}

theorem State.guardsPolicy_revokeLease (s : State) (k : SlotNo) (l : AgentLease) : s.GuardsPolicy (s.revokeLease k l) := {}

theorem State.guardsPolicy_freeReserved (s : State) (k : SlotNo) : s.GuardsPolicy (s.freeReserved k) := by
  unfold State.freeReserved
  split <;> exact {}

theorem State.guardsPolicy_collectSlot (s : State) (k : SlotNo) : s.GuardsPolicy (s.collectSlot k) := by
  unfold State.collectSlot
  split <;> exact {}

theorem State.guardsPolicy_cancelGrant (s : State) (c : CellNo) : s.GuardsPolicy (s.cancelGrant c) := by
  unfold State.cancelGrant
  split <;> exact {}

/-- A record written keeps the policy when it has the settings of the record before. -/
theorem State.guardsPolicy_updateConduct {s : State} {a : AgentNo} {r : AgentRecord} (h : r.settings = (s.agent a).settings) :
    s.GuardsPolicy (s.updateConduct a r) := by
  have hsettings : ∀ b, ((s.updateConduct a r).agent b).settings = (s.agent b).settings := fun b => by
    rw [State.agent_updateConduct]
    split
    · next hb => exact hb ▸ h
    · rfl
  rw [State.updateConduct_frame] at hsettings ⊢
  exact { settings := hsettings }

theorem AgentRecord.settings_charged (r : AgentRecord) (n : ScoreName) : (r.charged n).settings = r.settings := by
  cases n <;> rfl

theorem State.guardsPolicy_charge (s : State) (a : AgentNo) (n : ScoreName) : s.GuardsPolicy (s.charge a n) :=
  State.guardsPolicy_updateConduct ((s.agent a).settings_charged n)

theorem State.guardsPolicy_credit (s : State) (a : AgentNo) : s.GuardsPolicy (s.credit a) := State.guardsPolicy_updateConduct rfl

theorem State.guardsPolicy_unlessReset {s : State} {f : State → State} (h : s.GuardsPolicy (f s)) :
    s.GuardsPolicy (s.unlessReset f) := by
  unfold State.unlessReset
  split
  · exact .refl s
  · exact h

/-! ### Requests (R68 to R108) -/

theorem State.guardsPolicy_takeRequest {s : State} {kind : Option RequestKind} {serve : AgentNo → Word → State × Answer}
    (h : ∀ a w0, s.GuardsPolicy (serve a w0).1) : s.GuardsPolicy (s.takeRequest kind serve) := by
  by_cases hq : ∃ a w0, s.Requesting a w0 kind
  · obtain ⟨a, w0, hq⟩ := hq
    rw [State.takeRequest_of_requesting hq]
    exact (h a w0).trans {}
  · rw [State.takeRequest_of_not fun a w0 h => hq ⟨a, w0, h⟩]
    exact {}

theorem State.guardsPolicy_blockedAcquire (s : State) (e : WaitEntry) (r : Reason) (limit : BitVec 16) :
    s.GuardsPolicy (s.blockedAcquire e r limit).1 := by
  unfold State.blockedAcquire
  split_ifs
  · cases r <;> exact {}
  · exact .refl s
  · split
    · exact {}
    · cases r <;> exact {}

theorem State.guardsPolicy_serveAcquire (s : State) (a : AgentNo) (q : AcquireFields) : s.GuardsPolicy (s.serveAcquire a q).1 := by
  obtain h | ⟨m, _, h⟩ := s.serveAcquire_refused_or_goesOn a q
  · rw [h]
    exact .refl s
  · rw [h, State.acquireOrWait]
    split
    · exact {}
    · exact s.guardsPolicy_blockedAcquire _ _ _

theorem State.guardsPolicy_serveRenew (s : State) (a : AgentNo) (h : Handle) (n : BitVec 16) :
    s.GuardsPolicy (s.serveRenew a h n).1 := by
  unfold State.serveRenew
  split_ifs
  · exact .refl s
  · exact .refl s
  · cases (s.slot h.slot).state with
    | held l r =>
      dsimp only
      unfold State.renewHeld
      split <;> exact {}
    | _ => exact .refl s

theorem State.guardsPolicy_serveRelease (s : State) (a : AgentNo) (h : Handle) : s.GuardsPolicy (s.serveRelease a h).1 := by
  have hfree := s.guardsPolicy_freeSlot h.slot
  unfold State.serveRelease
  split_ifs
  · exact .refl s
  · exact .refl s
  · cases (s.slot h.slot).state with
    | held l r => exact (hfree.trans (State.guardsPolicy_credit _ a)).grantPass
    | lapsed l r => exact hfree.grantPass
    | revoked l r => exact hfree.grantPass
    | _ => exact .refl s

theorem State.guardsPolicy_servePoll (s : State) (a : AgentNo) (t : Ticket) : s.GuardsPolicy (s.servePoll a t).1 := by
  unfold State.servePoll
  split_ifs
  · exact .refl s
  · exact .refl s
  · cases (s.cell t.cell).state with
    | granted e left k => exact (s.guardsPolicy_collectSlot k).trans (State.guardsPolicy_emptyCell _ _)
    | ended e o left => exact s.guardsPolicy_emptyCell _
    | _ => exact .refl s

theorem State.guardsPolicy_serveWithdraw (s : State) (a : AgentNo) (t : Ticket) : s.GuardsPolicy (s.serveWithdraw a t).1 := by
  unfold State.serveWithdraw
  split_ifs
  · exact .refl s
  · exact .refl s
  · cases (s.cell t.cell).state with
    | waiting e r w => exact (s.guardsPolicy_emptyCell _).grantPass
    | granted e left k => exact ((s.guardsPolicy_freeReserved k).trans (State.guardsPolicy_emptyCell _ _)).grantPass
    | ended e o left => exact s.guardsPolicy_emptyCell _
    | empty => exact .refl s

/-! ### What an outcome comes to -/

/-- The outcome is a next state with the same policy and the same lock. -/
def GuardsPolicyTo (s : State) (o : Host.Outcome State Fault Refusal) : Prop := ∃ t, o = .next t ∧ s.GuardsPolicy t

theorem State.GuardsPolicy.next {s t : State} (h : s.GuardsPolicy t) : GuardsPolicyTo s (.next t) := ⟨t, rfl, h⟩

theorem guardsPolicyTo_takeRequest {s : State} {kind : Option RequestKind} {serve : AgentNo → Word → State × Answer}
    (h : ∀ a w0, s.GuardsPolicy (serve a w0).1) : GuardsPolicyTo s (.next (s.takeRequest kind serve)) :=
  (State.guardsPolicy_takeRequest h).next

theorem guardsPolicyTo_unlessReset {s : State} {f : State → State} (h : s.GuardsPolicy (f s)) :
    GuardsPolicyTo s (.next (s.unlessReset f)) := (State.guardsPolicy_unlessReset h).next

/-! ### The bus (R60 to R65, R120, R121) -/

theorem State.guardsPolicy_choose (s : State) : s.GuardsPolicy s.choose := by
  unfold State.choose
  split
  · exact .refl s
  · split
    · unfold State.grantBus
      split <;> exact {}
    · exact .refl s

theorem execArbiterChoice_guardsPolicy (req : Word) (s : State) : GuardsPolicyTo s (execArbiterChoice req s) := by
  have hreq : s.GuardsPolicy { s with req := req } := {}
  exact (hreq.trans (State.guardsPolicy_unlessReset (State.guardsPolicy_choose _))).next

theorem execTenureEnd_guardsPolicy (s : State) : GuardsPolicyTo s (execTenureEnd s) := by
  refine State.GuardsPolicy.next ?_
  split <;> exact {}

theorem execTenureLimitExpiry_guardsPolicy (s : State) : GuardsPolicyTo s (execTenureLimitExpiry s) := by
  refine State.GuardsPolicy.next ?_
  split <;> exact {}

theorem execFirstRequestWord_guardsPolicy (w0 : Word) (s : State) : GuardsPolicyTo s (execFirstRequestWord w0 s) := by
  refine State.GuardsPolicy.next ?_
  split <;> exact {}

theorem State.guardsPolicy_detached (s : State) (a : AgentNo) : s.GuardsPolicy (s.detached a) := by
  refine State.GuardsPolicy.grantPass (t := s.detachedBeforePass a) ?_
  rw [State.detachedBeforePass_frame]
  exact {}

theorem execDetach_guardsPolicy (a : AgentNo) (s : State) : GuardsPolicyTo s (execDetach a s) := by
  have hline : s.GuardsPolicy (s.lineLowered a) := {}
  refine State.GuardsPolicy.next ?_
  split
  · exact hline.trans (State.guardsPolicy_unlessReset (State.guardsPolicy_detached _ a))
  · exact hline

/-! ### Expiries, visits and the check port (R40 to R46, R109, R110, R126, R137, R154) -/

theorem State.guardsPolicy_lapse (s : State) (k : SlotNo) (l : AgentLease) : s.GuardsPolicy (s.lapse k l) := by
  have hslot : s.GuardsPolicy (s.setSlotState k (.lapsed l s.holdAmount)) := {}
  refine State.GuardsPolicy.raise ?_ _ _
  unfold State.chargeLapse
  split
  · exact hslot.trans (State.guardsPolicy_charge _ _ _)
  · exact hslot

theorem execTermExpiry_guardsPolicy (k : SlotNo) (s : State) : GuardsPolicyTo s (execTermExpiry k s) := by
  refine State.GuardsPolicy.next ?_
  split
  · next l _ =>
    unfold State.termRunsOut
    split_ifs
    · exact .refl s
    · exact {}
    · exact (s.guardsPolicy_lapse k l).passIfReadied s
  · exact .refl s

theorem execHoldExpiry_guardsPolicy (k : SlotNo) (s : State) : GuardsPolicyTo s (execHoldExpiry k s) := by
  have hfreed : s.GuardsPolicy (if s.frozen then s else (s.freeSlot k).grantPass) := by
    split
    · exact .refl s
    · exact (s.guardsPolicy_freeSlot k).grantPass
  refine State.GuardsPolicy.next ?_
  split
  · exact hfreed
  · exact hfreed
  · exact .refl s

theorem execWaitLimitExpiry_guardsPolicy (c : CellNo) (s : State) : GuardsPolicyTo s (execWaitLimitExpiry c s) := by
  have hreadied : s.GuardsPolicy (s.readyCell c .timedOut) := {}
  refine State.GuardsPolicy.next ?_
  split
  · split
    · exact .refl s
    · exact hreadied.grantPass
  · exact .refl s

theorem State.guardsPolicy_abandonGrant (s : State) (c : CellNo) (a : AgentNo) (k : SlotNo) :
    s.GuardsPolicy (s.abandonGrant c a k) := by
  have hcharge := ((s.guardsPolicy_freeReserved k).trans (State.guardsPolicy_emptyCell _ c)).trans
    (State.guardsPolicy_charge _ a .abandon)
  exact (hcharge.raise .ticketAbandoned a.val).grantPass

theorem execCollectionExpiry_guardsPolicy (c : CellNo) (s : State) : GuardsPolicyTo s (execCollectionExpiry c s) := by
  refine State.GuardsPolicy.next ?_
  split
  · split
    · exact .refl s
    · exact s.guardsPolicy_abandonGrant c _ _
  · split
    · exact .refl s
    · exact s.guardsPolicy_emptyCell c
  · exact .refl s

theorem State.guardsPolicy_takePresented (s : State) : s.GuardsPolicy s.takePresented := by
  rw [State.takePresented_frame]
  exact {}

theorem execLookup_guardsPolicy (a : AgentNo) (addr : BitVec 40) (kind : AccessKind) (s : State) :
    GuardsPolicyTo s (execLookup a addr kind s) := by
  refine State.GuardsPolicy.next ?_
  unfold State.presentNext
  split
  · exact State.GuardsPolicy.trans (t := { s with presented := _, heldLookups := _, ckAnswer := none }) {}
      (State.guardsPolicy_takePresented _)
  · exact {}

theorem execTrespassCharge_guardsPolicy (s : State) : GuardsPolicyTo s (execTrespassCharge s) := by
  refine State.GuardsPolicy.next ?_
  split
  · exact .refl s
  · next a rest _ =>
    have htaken : s.GuardsPolicy { s with charges := rest } := {}
    exact ((htaken.trans (State.guardsPolicy_charge _ a _)).passIfReadied s).trans (State.guardsPolicy_takePresented _)

theorem State.guardsPolicy_visitAction (s : State) (k : SlotNo) : s.GuardsPolicy (s.visitAction k).1 := by
  unfold State.visitAction
  cases (s.slot k).state with
  | held l r =>
    dsimp only
    split <;> exact {}
  | lapsed l r =>
    dsimp only
    split <;> exact {}
  | reserved l c =>
    dsimp only
    split
    · exact (s.guardsPolicy_freeSlot k).trans (State.guardsPolicy_cancelGrant _ c)
    · exact .refl s
  | _ => exact .refl s

theorem State.guardsPolicy_endSweep (s : State) (st : SweepStatus) : s.GuardsPolicy (s.endSweep st) := {}

theorem State.guardsPolicy_visitSlot (s : State) (k : SlotNo) : s.GuardsPolicy (s.visitSlot k) := by
  have haction := s.guardsPolicy_visitAction k
  unfold State.visitSlot
  generalize s.visitAction k = r at haction
  have hadvanced : s.GuardsPolicy { r.1 with sweep := r.1.sweep.advanced (k.val + 1) r.2.2 } := haction.trans {}
  dsimp only
  split_ifs
  · exact (hadvanced.trans (State.guardsPolicy_endSweep _ _)).grantPass
  · exact hadvanced.grantPass
  · exact hadvanced

theorem execVisit_guardsPolicy (s : State) : GuardsPolicyTo s (execVisit s) := by
  refine State.GuardsPolicy.next ?_
  split_ifs
  · exact s.guardsPolicy_visitSlot _
  · exact .refl s
  · exact .refl s

/-! ### The commands the lock refuses (R133, R178, R181) -/

/-- While the lock is set a SET_AGENT that is not refused carries no conduct part (R133). -/
theorem State.conductFlagged_eq_false {s : State} {a : AgentNo} (hlock : s.lock = true) (h : s.setAgentRefusal a = none) :
    conductFlagged s.params = false := by
  unfold State.setAgentRefusal at h
  split_ifs at h with _ _ hlocked
  simpa [hlock] using hlocked

theorem AgentRecord.settings_withPortPart (r : AgentRecord) (ps : Vector Word 6) : (r.withPortPart ps).settings = r.settings := by
  unfold AgentRecord.withPortPart
  split
  · split <;> rfl
  · rfl

theorem AgentRecord.withConductPart_of_notFlagged {ps : Vector Word 6} (h : conductFlagged ps = false) (r : AgentRecord) :
    r.withConductPart ps = r := if_neg (ne_true_of_eq_false h)

theorem State.guardsPolicy_setAgentCommand {s : State} (hlock : s.lock = true) : s.GuardsPolicy s.setAgentCommand := by
  unfold State.setAgentCommand
  split
  · exact (State.GuardsPolicy.refl s).conclude _
  · next a _ =>
    split
    · exact (State.GuardsPolicy.refl s).conclude _
    · next h =>
      have hconduct := State.guardsPolicy_updateConduct ((s.agent a).settings_withPortPart s.params)
      refine State.GuardsPolicy.finish ?_ _ _ _
      unfold State.applySetAgent
      rw [AgentRecord.withConductPart_of_notFlagged (State.conductFlagged_eq_false hlock h)]
      dsimp only
      split
      · exact hconduct.grantPass
      · exact hconduct.passIfReadied s

theorem State.loadProfile_of_locked {s : State} (hlock : s.lock = true) : s.loadProfile = s.conclude .locked := by
  have hrefused : s.loadRefusal = some .locked := if_pos hlock
  rw [State.loadProfile, hrefused]

theorem State.lock_of_locked {s : State} (hlock : s.lock = true) :
    (if s.lock then s.conclude .ignored else { s with lock := true }.conclude .done) = s.finish .ignored 0 0 := if_pos hlock

theorem State.lock_of_unlocked {s : State} (hlock : s.lock = false) :
    (if s.lock then s.conclude .ignored else { s with lock := true }.conclude .done) =
      State.finish { s with lock := true } .done 0 0 := if_neg (ne_true_of_eq_false hlock)

/-! ### The other host commands and writes (R136, R151 to R158, R163 to R189) -/

theorem State.guardsPolicy_clearAgentCommand (s : State) : s.GuardsPolicy s.clearAgentCommand := by
  unfold State.clearAgentCommand
  split
  · exact (State.GuardsPolicy.refl s).conclude _
  · next a _ =>
    have hcleared : s.GuardsPolicy (s.updateConduct a (s.agent a).cleared) := State.guardsPolicy_updateConduct rfl
    exact hcleared.finish _ _ _

theorem State.guardsPolicy_startSweep (s : State) : s.GuardsPolicy s.startSweep := by
  unfold State.startSweep
  split
  · exact (State.GuardsPolicy.refl s).conclude _
  · split
    · exact (State.GuardsPolicy.refl s).conclude _
    · next k _ =>
      have hbegun : s.GuardsPolicy (s.sweepBegun k) := {}
      exact (hbegun.passIfReadied s).finish _ _ _

theorem State.guardsPolicy_abortSweep (s : State) : s.GuardsPolicy s.abortSweep := by
  unfold State.abortSweep
  split
  · exact (s.guardsPolicy_endSweep _).grantPass.conclude _
  · exact (State.GuardsPolicy.refl s).conclude _

theorem State.guardsPolicy_readRecord (s : State) (image : Option (Vector Word 12)) : s.GuardsPolicy (s.readRecord image) := by
  unfold State.readRecord
  split
  · exact {}
  · split <;> exact {}

theorem State.guardsPolicy_dropSnapshot (s : State) : s.GuardsPolicy s.dropSnapshot := by
  unfold State.dropSnapshot
  split <;> exact {}

theorem State.guardsPolicy_setFence (s : State) (r : GranuleRange) : s.GuardsPolicy (s.setFence r) := by
  unfold State.setFence
  split_ifs
  · exact {}
  · exact {}
  · split <;> exact {}

theorem State.guardsPolicy_clearFence (s : State) (h : Handle) : s.GuardsPolicy (s.clearFence h) := by
  unfold State.clearFence
  split
  · split
    · exact (s.guardsPolicy_freeSlot _).grantPass.conclude _
    · exact {}
  · exact {}

theorem State.guardsPolicy_revokePair (s : State) (h : Handle) : s.GuardsPolicy (s.revokePair h) := by
  unfold State.revokePair
  split
  · cases (s.slot h.slot).state with
    | held l r => exact (s.guardsPolicy_revokeLease _ l).grantPass.finish _ _ _
    | lapsed l r => exact (s.guardsPolicy_revokeLease _ l).grantPass.finish _ _ _
    | reserved l c =>
      exact ((s.guardsPolicy_freeSlot _).trans (State.guardsPolicy_cancelGrant _ c)).grantPass.finish _ _ _
    | _ => exact {}
  · exact {}

theorem State.guardsPolicy_cancelTicket (s : State) (t : Ticket) : s.GuardsPolicy (s.cancelTicket t) := by
  have hcancelled : s.GuardsPolicy (s.readyCell t.cell .cancelled) := {}
  unfold State.cancelTicket
  split
  · exact {}
  · cases (s.cell t.cell).state with
    | waiting e r w => exact hcancelled.grantPass.finish _ _ _
    | _ => exact {}

theorem State.guardsPolicy_storeWord (s : State) (n : Nat) (data : Word) : s.GuardsPolicy (s.storeWord n data) := by
  unfold State.storeWord
  split_ifs <;> exact {}

/-- While the lock is set every command code but that of CLEAR_ALL keeps the policy and the lock. -/
theorem writeCommandWord_guardsPolicy {s : State} (hlock : s.lock = true) {code : BitVec 8} (hclear : code.toNat ≠ 9) :
    GuardsPolicyTo s (writeCommandWord code s) := by
  unfold writeCommandWord
  split
  · exact guardsPolicyTo_unlessReset {}
  · exact guardsPolicyTo_unlessReset {}
  · exact guardsPolicyTo_unlessReset (State.guardsPolicy_setAgentCommand hlock)
  · exact guardsPolicyTo_unlessReset s.guardsPolicy_clearAgentCommand
  · exact guardsPolicyTo_unlessReset s.guardsPolicy_startSweep
  · exact guardsPolicyTo_unlessReset s.guardsPolicy_abortSweep
  · exact guardsPolicyTo_unlessReset (by rw [State.loadProfile_of_locked hlock]; exact {})
  · exact guardsPolicyTo_unlessReset (by rw [State.lock_of_locked hlock]; exact {})
  · next hcode => exact absurd hcode hclear
  · exact guardsPolicyTo_unlessReset (s.guardsPolicy_readRecord _)
  · exact guardsPolicyTo_unlessReset (s.guardsPolicy_readRecord _)
  · exact guardsPolicyTo_unlessReset (s.guardsPolicy_readRecord _)
  · exact guardsPolicyTo_unlessReset (s.guardsPolicy_readRecord _)
  · exact guardsPolicyTo_unlessReset s.guardsPolicy_dropSnapshot
  · exact guardsPolicyTo_unlessReset (s.guardsPolicy_setFence _)
  · exact guardsPolicyTo_unlessReset (s.guardsPolicy_clearFence _)
  · exact guardsPolicyTo_unlessReset (s.guardsPolicy_revokePair _)
  · exact guardsPolicyTo_unlessReset (s.guardsPolicy_cancelTicket _)
  · exact guardsPolicyTo_unlessReset {}

theorem writeCommandWord_of_clearAll {code : BitVec 8} (h : code.toNat = 9) (s : State) :
    writeCommandWord code s = execClearAll s := by
  obtain rfl : code = 9 := BitVec.eq_of_toNat_eq h
  rfl

/-- CLEAR_ALL resets values and counts and keeps every setting (R182). -/
theorem execClearAll_keepsPolicy (s : State) : ∃ t, execClearAll s = .next t ∧ s.KeepsPolicy t := by
  have hcleared : s.KeepsPolicy s.cleared := { settings := fun a => by rw [State.agent_cleared]; rfl }
  refine ⟨_, rfl, ?_⟩
  unfold State.unlessReset
  split
  · exact {}
  · exact hcleared.trans (s.cleared.guardsPolicy_grantPass.conclude .done).toKeepsPolicy

/-! ### Every row -/

/-- A row that is a CLEAR_ALL: the command, or an ill-formed row that writes its code to the command word (log 4, 5). -/
def ClearsAll (c : Instr) : Prop := (∀ s, exec c s = execClearAll s) ∧ (c.wellFormed = true → c = .clearAll)

/-- A write of the command word keeps policy and lock, or is a CLEAR_ALL. -/
theorem guardsPolicyTo_or_clearsAll {c : Instr} {code : BitVec 8} (hexec : ∀ s, exec c s = writeCommandWord code s)
    (hform : c.wellFormed = true → code.toNat = 9 → c = .clearAll) {s : State} (hlock : s.lock = true) :
    GuardsPolicyTo s (exec c s) ∨ ClearsAll c := by
  by_cases hcode : code.toNat = 9
  · exact .inr ⟨fun s => (hexec s).trans (writeCommandWord_of_clearAll hcode s), fun h => hform h hcode⟩
  · exact .inl (hexec s ▸ writeCommandWord_guardsPolicy hlock hcode)

theorem execRegisterWrite_guardsPolicy {addr : BitVec 6} (h : addr.toNat ≠ 1) (data : Word) (s : State) :
    GuardsPolicyTo s (execRegisterWrite addr data s) := by
  unfold execRegisterWrite
  split
  · next haddr => exact absurd haddr h
  · exact guardsPolicyTo_unlessReset {}
  · exact guardsPolicyTo_unlessReset {}
  · exact guardsPolicyTo_unlessReset {}
  · exact guardsPolicyTo_unlessReset (s.guardsPolicy_storeWord _ data)

/-- While the lock is set every row but power-on and RESET keeps the policy and the lock, or is a CLEAR_ALL (R181). -/
theorem exec_guardsPolicy_or_clearsAll {c : Instr} {s : State} (hlock : s.lock = true) (hreset : c ≠ .resetHeld)
    (hpower : ∀ g n l, c ≠ .powerOn g n l) : GuardsPolicyTo s (exec c s) ∨ ClearsAll c := by
  have command {n : Nat} (hc : c.commandCode = some n) (hn : (BitVec.ofNat 8 n).toNat ≠ 9) :
      GuardsPolicyTo s (exec c s) ∨ ClearsAll c :=
    .inl (exec_eq_writeCommandWord hc s ▸ writeCommandWord_guardsPolicy hlock hn)
  cases c with
  | acquire w1 w2 w3 => exact .inl (guardsPolicyTo_takeRequest fun _ _ => s.guardsPolicy_serveAcquire _ _)
  | renew w1 w2 w3 => exact .inl (guardsPolicyTo_takeRequest fun _ _ => s.guardsPolicy_serveRenew _ _ _)
  | release w1 w2 w3 => exact .inl (guardsPolicyTo_takeRequest fun _ _ => s.guardsPolicy_serveRelease _ _)
  | poll w1 w2 w3 => exact .inl (guardsPolicyTo_takeRequest fun _ _ => s.guardsPolicy_servePoll _ _)
  | withdraw w1 w2 w3 => exact .inl (guardsPolicyTo_takeRequest fun _ _ => s.guardsPolicy_serveWithdraw _ _)
  | unknownRequest w1 w2 w3 => exact .inl (guardsPolicyTo_takeRequest fun _ _ => .refl s)
  | arbiterChoice req => exact .inl (execArbiterChoice_guardsPolicy req s)
  | tenureEnd => exact .inl (execTenureEnd_guardsPolicy s)
  | tenureLimitExpiry => exact .inl (execTenureLimitExpiry_guardsPolicy s)
  | attach a => exact .inl (State.GuardsPolicy.next {})
  | detach a => exact .inl (execDetach_guardsPolicy a s)
  | powerOn g n l => exact absurd rfl (hpower g n l)
  | termExpiry k => exact .inl (execTermExpiry_guardsPolicy k s)
  | holdExpiry k => exact .inl (execHoldExpiry_guardsPolicy k s)
  | waitLimitExpiry c => exact .inl (execWaitLimitExpiry_guardsPolicy c s)
  | collectionExpiry c => exact .inl (execCollectionExpiry_guardsPolicy c s)
  | lookup a addr kind => exact .inl (execLookup_guardsPolicy a addr kind s)
  | trespassCharge => exact .inl (execTrespassCharge_guardsPolicy s)
  | visit => exact .inl (execVisit_guardsPolicy s)
  | clearAll => exact .inr ⟨fun _ => rfl, fun _ => rfl⟩
  | unknownCommand code =>
    refine guardsPolicyTo_or_clearsAll (fun _ => rfl) (fun hform hcode => ?_) hlock
    simp [Instr.wellFormed, knownCommandCode, hcode] at hform
  | closingRead => exact .inl (State.GuardsPolicy.next {})
  | enableWrite data => exact .inl (guardsPolicyTo_unlessReset {})
  | globalEnableWrite on => exact .inl (guardsPolicyTo_unlessReset {})
  | elevateWrite field => exact .inl (guardsPolicyTo_unlessReset {})
  | acknowledge data => exact .inl (guardsPolicyTo_unlessReset {})
  | registerWrite addr data =>
    by_cases haddr : addr.toNat = 1
    · have hword : addr = 1 := BitVec.eq_of_toNat_eq haddr
      subst hword
      exact guardsPolicyTo_or_clearsAll (fun _ => rfl) (fun hform _ => by cases hform) hlock
    · exact .inl (execRegisterWrite_guardsPolicy haddr data s)
  | firstRequestWord w0 => exact .inl (execFirstRequestWord_guardsPolicy w0 s)
  | resetHeld => exact absurd rfl hreset
  | _ => exact command rfl (by decide)

/-- Settles O43: a row that is not a CLEAR_ALL keeps policy and lock, and a CLEAR_ALL keeps the policy. -/
theorem lockProtectsThePolicy : Obligations.LockProtectsThePolicy := by
  refine ⟨fun s hr => ⟨fun hlock => (next_unlessReset hr _).trans (congrArg _ (State.lock_of_unlocked hlock)),
    fun hlock => (next_unlessReset hr _).trans (congrArg _ (State.lock_of_locked hlock))⟩,
    fun c s t hlock ht hreset hpower => ?_⟩
  have hlaw : s.KeepsPolicy t ∧ (c.wellFormed = true → c ≠ .clearAll → t.lock = true) := by
    obtain ⟨u, hu, hguards⟩ | ⟨hexec, hform⟩ := exec_guardsPolicy_or_clearsAll hlock hreset hpower
    · cases hu.symm.trans ht
      exact ⟨hguards.toKeepsPolicy, fun _ _ => hguards.lock.trans hlock⟩
    · obtain ⟨u, hu, hkeeps⟩ := execClearAll_keepsPolicy s
      cases hu.symm.trans ((hexec s).symm.trans ht)
      exact ⟨hkeeps, fun hwell hne => absurd (hform hwell) hne⟩
  obtain ⟨⟨hmap, hunit, hhold, hwindow, hyield, hsettings⟩, hkept⟩ := hlaw
  refine ⟨hmap, hunit, hhold, hwindow, hyield, fun a => ?_, hkept⟩
  simpa [AgentRecord.settings] using hsettings a

end Sys2Proof.Machine
end

section
/-! SUPPORT. The interrupt controls: what the writes and the acknowledgement make of the sources, and which source INT and TOP show (R184 to
R186, R189). -/

namespace Sys2Proof.Machine

/-! ### The writes of all eight sources (R185, R186) -/

theorem State.sources_writeEnables (s : State) (data : Word) (n : Fin 8) :
    (s.writeEnables data).sources[n] = { s.sources[n] with enabled := data.getLsbD n.val } := by
  simp [State.writeEnables, State.source]

theorem State.sources_acknowledge (s : State) (data : Word) (n : Fin 8) :
    (s.acknowledge data).sources[n] = { s.sources[n] with pending := s.sources[n].pending && !data.getLsbD n.val } := by
  simp [State.acknowledge, State.source]

/-! ### The priority order (R184, R185) -/

theorem Source.mem_defaultOrder (x : Source) : x ∈ Source.defaultOrder := by
  cases x <;> decide

theorem Source.pairwise_defaultOrder : Source.defaultOrder.Pairwise fun x y => x.number < y.number := by decide

theorem mem_priorityOrder (elevate : Option Source) (x : Source) : x ∈ priorityOrder elevate := by
  cases elevate with
  | none => exact x.mem_defaultOrder
  | some e => simp [priorityOrder, x.mem_defaultOrder, eq_or_ne x e]

/-- In a list in the order of the numbers, the first source that passes a test is the one of the least number. -/
theorem Source.find?_eq_some_iff_of_pairwise {xs : List Source} (hxs : xs.Pairwise fun x y => x.number < y.number)
    (p : Source → Bool) (x : Source) :
    xs.find? p = some x ↔ x ∈ xs ∧ p x = true ∧ ∀ y ∈ xs, p y = true → x.number ≤ y.number := by
  induction xs with
  | nil => simp
  | cons a xs ih =>
    obtain ⟨hfirst, hrest⟩ := List.pairwise_cons.1 hxs
    cases hp : p a with
    | false =>
      have hne (hlive : p x = true) : x ≠ a := fun hx => by simp [hx, hp] at hlive
      rw [List.find?_cons_of_neg (by simp [hp]), ih hrest, List.mem_cons, List.forall_mem_cons, hp]
      simp only [Bool.false_eq_true, false_implies, true_and]
      exact and_congr_left fun ⟨hlive, _⟩ => (or_iff_right (hne hlive)).symm
    | true =>
      rw [List.find?_cons_of_pos hp, Option.some_inj]
      constructor
      · rintro rfl
        exact ⟨List.mem_cons_self, hp, List.forall_mem_cons.2 ⟨fun _ => le_rfl, fun y hy _ => (hfirst y hy).le⟩⟩
      · rintro ⟨hx, -, hleast⟩
        obtain rfl | hx := List.mem_cons.1 hx
        · rfl
        · exact absurd (hleast a List.mem_cons_self hp) (hfirst x hx).not_ge

theorem Source.find?_defaultOrder_eq_some_iff (p : Source → Bool) (x : Source) :
    Source.defaultOrder.find? p = some x ↔ p x = true ∧ ∀ y, p y = true → x.number ≤ y.number := by
  simp [Source.find?_eq_some_iff_of_pairwise Source.pairwise_defaultOrder, Source.mem_defaultOrder]

/-! ### INT and TOP (R185) -/

theorem State.live_iff (s : State) (x : Source) :
    s.live x = true ↔ s.sources[x.number].pending = true ∧ s.sources[x.number].enabled = true := Bool.and_eq_true_iff

theorem State.intLine_iff (s : State) : s.intLine = true ↔ s.globalEnable = true ∧ ∃ x, s.live x = true := by
  simp [State.intLine, Source.mem_defaultOrder]

theorem State.top_eq_none_iff (s : State) : s.top = none ↔ ∀ x, s.live x = false := by
  simp [State.top, mem_priorityOrder]

/-- An elevated source that is live stands first. -/
theorem State.top_of_elevated {s : State} {e : Source} (he : s.elevate = some e) (hlive : s.live e = true) : s.top = some e := by
  rw [State.top, he]
  exact List.find?_cons_of_pos hlive

/-- An elevated source that is not live leaves the choice to the default order. -/
theorem State.top_of_default {s : State} (h : ∀ e, s.elevate = some e → s.live e = false) :
    s.top = Source.defaultOrder.find? s.live := by
  cases he : s.elevate with
  | none => rw [State.top, he, priorityOrder]
  | some e =>
    have hdead := h e he
    rw [State.top, he, priorityOrder, List.find?_cons_of_neg (by simp [hdead]), List.find?_filter]
    refine congrArg (List.find? · Source.defaultOrder) (funext fun x => ?_)
    by_cases hx : x = e <;> simp [hx, hdead]

theorem State.top_eq_some_iff (s : State) (x : Source) :
    s.top = some x ↔ s.live x = true ∧
      (s.elevate = some x ∨
        (∀ e, s.elevate = some e → s.live e = false) ∧ ∀ y, s.live y = true → x.number ≤ y.number) := by
  by_cases h : ∀ e, s.elevate = some e → s.live e = false
  · rw [State.top_of_default h, Source.find?_defaultOrder_eq_some_iff]
    refine and_congr_right fun hx => ⟨fun hleast => .inr ⟨h, hleast⟩, fun hor => ?_⟩
    obtain helevated | ⟨-, hleast⟩ := hor
    · exact absurd hx (Bool.eq_false_iff.1 (h x helevated))
    · exact hleast
  · push Not at h
    obtain ⟨e, he, hnotDead⟩ := h
    have hlive := Bool.eq_true_of_not_eq_false hnotDead
    rw [State.top_of_elevated he hlive, ← he]
    refine ⟨fun hx => ⟨?_, .inl hx⟩, fun ⟨_, hor⟩ => hor.resolve_right fun ⟨hdead, _⟩ => ?_⟩
    · cases he.symm.trans hx
      exact hlive
    · exact absurd hlive (Bool.eq_false_iff.1 (hdead e he))

/-! ### The statement -/

/-- Settles O49, from a rule for each write, for the raise, and for what INT and TOP show. -/
theorem interruptControls : Obligations.InterruptControls := by
  intro s hr
  refine ⟨fun data => ⟨s.writeEnables data, next_unlessReset hr _, rfl, s.sources_writeEnables data⟩,
    fun b => next_unlessReset hr _, fun f x hx => ?_, fun f hf => ?_,
    fun data => ⟨s.acknowledge data, next_unlessReset hr _, rfl, s.sources_acknowledge data⟩, ?_,
    s.live_iff, s.intLine_iff, s.top_eq_none_iff, s.top_eq_some_iff⟩
  · exact (next_unlessReset hr _).trans (by rw [sourceOf_of_number hx])
  · exact (next_unlessReset hr _).trans (by rw [sourceOf_of_large hf])
  · rintro x detail _ rfl
    have hself := s.sources_raise_self x detail
    exact ⟨rfl, ⟨by rw [hself], by rw [hself]⟩, by rw [hself], fun n hn => s.sources_raise_of_ne x detail n hn.symm⟩

end Sys2Proof.Machine
end

section
/-! SUPPORT. A step on a queue that is not empty; the empty queue's rules are `step_of_idle_reset` and `step_of_idle_running`. -/

namespace Sys2Proof.Machine

theorem step_of_front {s : State} {c : Instr} {rest : List Instr} (h : s.pending = c :: rest) :
    step s = exec c { s with pending := rest } := by
  simp only [step, h]

/-- Settles O1: the queue just written has `c` at its front, and taking `c` off writes over that queue alone. -/
theorem stepRunsFrontCommand : Obligations.StepRunsFrontCommand :=
  fun _ _ _ => step_of_front rfl

end Sys2Proof.Machine
end
